-- ==== Sys2Proof/Word.lean ====
section
/-! DEFINITION. Word.lean: the widths of the numbers carried in frames (R194: unsigned, big-endian). -/

namespace Sys2Proof

/-- One byte of a frame (R187). -/
abbrev Byte := BitVec 8

/-- A 2-byte frame field (R194). -/
abbrev W16 := BitVec 16

/-- A 4-byte frame field (R194). -/
abbrev W32 := BitVec 32

/-- A 5-byte frame field: a profile's range low or range high (R194). -/
abbrev W40 := BitVec 40

/-- A 10-byte frame field: the packed digits of a card number (R194). -/
abbrev W80 := BitVec 80

end Sys2Proof
end

