-- ==== Sys2Proof/Syntax.lean ====
section
/-! DEFINITION. Syntax.lean: the commands of the DN-618, one constructor of `Instr` per row of spec/opcode_table.json,
and the operands they carry. A request's operands are the fields of its frame layout (R194) at their frame widths, so
that every check of the owning rule, undefined codes among them, is made by the command's meaning. -/

namespace Sys2Proof

/-! ### Subjects -/

/-- A fuelling point: index 0 to 17 for points 1 to 18 (R1). -/
abbrev Point := Fin 18

/-- A lane: index 0 to 5 for lanes 1 to 6 (R1). -/
abbrev Lane := Fin 6

/-- A slot of the authorization table, 0 to 23 (R42). -/
abbrev Slot := Fin 24

/-- A supply pump (R112). -/
inductive Pump where
  | a | b | c
  deriving DecidableEq, Repr

/-- A product (R1); `defl` is DEF, diesel exhaust fluid. -/
inductive Product where
  | dsl | rfr | defl
  deriving DecidableEq, Repr

/-- The quadrature pair of a point's meter inputs, as (A, B) (R122). -/
structure Pair where
  a : Bool
  b : Bool
  deriving DecidableEq, Repr

/-- The line rates the rate straps can set (R187). -/
inductive Baud where
  | b9600 | b19200 | b38400 | b57600
  deriving DecidableEq, Repr

/-- The levels of the part's inputs as a restart reads them (R111, R120, R142, R167, R171, R187). -/
structure Inputs where
  address : BitVec 5
  rate : Baud
  lifted : Vector Bool 18
  pairs : Vector Pair 18
  ready : Vector Bool 3
  estop : Bool
  calEn : Bool
  deriving DecidableEq, Repr

/-- What brings a warm restart about: the RESET request, or a brown-out. -/
inductive WarmCause where
  | resetRequest | brownOut
  deriving DecidableEq, Repr

/-- Which of the two takers of a forward count acts first: the place the count goes to, or the flow monitor. The
manual gives the outcome of both orders and fixes neither (R147, R152), so the command carries the order (DESIGN
CHOICE, log 6). -/
inductive CountOrder where
  | placeFirst | monitorFirst
  deriving DecidableEq, Repr

/-! ### Requests -/

/-- Where an accepted frame was addressed: to this station, or to all stations (R187). -/
inductive Dest where
  | station | broadcast
  deriving DecidableEq, Repr

/-- The body of a request after its kind byte: a body whose length is not its layout's, or the layout's fields
(R194). -/
inductive Body (α : Type) where
  | wrongLength
  | fields (f : α)
  deriving DecidableEq, Repr

/-- A card number as a frame carries it: the digit count and 10 bytes of packed BCD (R194). -/
structure CardWire where
  count : Byte
  bcd : W80
  deriving DecidableEq, Repr

/-- One prompt of a CARD PRESENTED: kind, digit count, value (R194). -/
structure PromptWire where
  kind : Byte
  count : Byte
  value : W32
  deriving DecidableEq, Repr

structure CardPresentedF where
  lane : Byte
  card : CardWire
  expiry : W16
  restriction : Byte
  amountPresent : Byte
  amount : W32
  prompts : List PromptWire
  deriving DecidableEq, Repr

structure OnlineResultF where
  serial : W16
  result : Byte
  amount : W32
  reference : List Byte
  limitPresent : Byte
  limit : W32
  narrowPresent : Byte
  narrow : Byte
  deriving DecidableEq, Repr

structure AuthReadF where
  marker : Byte
  which : W16
  part : Byte
  deriving DecidableEq, Repr

/-- A point and an option (POINT STATS, COUNTERS READ). -/
structure PointOptionF where
  point : Byte
  option : Byte
  deriving DecidableEq, Repr

structure StopPointF where
  point : Byte
  mode : Byte
  deriving DecidableEq, Repr

structure SaleFetchF where
  present : Byte
  serial : W16
  deriving DecidableEq, Repr

structure ProfileWriteF where
  index : Byte
  rangeLow : W40
  rangeHigh : W40
  cls : Byte
  active : Byte
  tier : Byte
  allLanes : Byte
  products : Byte
  prompts : Byte
  predicate : Byte
  window : W16
  onlineMode : Byte
  onlineTimeout : Byte
  floorLimit : W32
  preAuth : W32
  defCap : W32
  rfrCap : W32
  maxAuths : Byte
  dailyCap : W32
  deriving DecidableEq, Repr

/-- A date as a frame carries it: year (2), month (1), day (1). -/
structure DateF where
  year : W16
  month : Byte
  day : Byte
  deriving DecidableEq, Repr

/-- A time as a frame carries it: a date and the second of the day (4). -/
structure TimeF where
  date : DateF
  second : W32
  deriving DecidableEq, Repr

structure LaneConfigF where
  lane : Byte
  enabled : Byte
  tier : Byte
  sFitted : Byte
  sProduct : Byte
  dFitted : Byte
  deriving DecidableEq, Repr

structure PointConfigF where
  point : Byte
  noise : Byte
  reverseAllowance : Byte
  window : Byte
  noFlowTime : Byte
  surgeCode : Byte
  surgeHold : Byte
  p : W16
  c : W32
  deriving DecidableEq, Repr

structure ProductConfigF where
  product : Byte
  price : W32
  startBand : W16
  slowDown : W16
  closeAhead : W16
  softStop : W16
  tolerance : W16
  deriving DecidableEq, Repr

/-- The four settings SITE CONFIG carries for one pump (R121). -/
structure PumpSettingsF where
  readyCheck : Byte
  spinUp : Byte
  readyWait : Byte
  runOn : Byte
  deriving DecidableEq, Repr

structure SiteConfigF where
  armingTime : W16
  idleCloseTime : W16
  deliveryMax : W32
  softStopTime : Byte
  drainTime : Byte
  suspensionLimit : W16
  pumpA : PumpSettingsF
  pumpB : PumpSettingsF
  pumpC : PumpSettingsF
  reportMode : Byte
  reportInterval : W16
  deriving DecidableEq, Repr

structure AlarmMaskF where
  kind : Byte
  subject : Byte
  mask : Byte
  edge : Byte
  deriving DecidableEq, Repr

structure AlarmClearF where
  kind : Byte
  subject : Byte
  deriving DecidableEq, Repr

structure ProveResultF where
  point : Byte
  volume : W32
  deriving DecidableEq, Repr

/-! ### Commands -/

/-- The commands of spec/opcode_table.json, in its order. -/
inductive Instr where
  /-- FRAME_BYTE_RECEIVED (R187): a byte, and whether its stop bit was there. -/
  | frameByteReceived (byte : Byte) (stopBit : Bool)
  /-- FRAME_GAP_TIMEOUT (R187). -/
  | frameGapTimeout
  /-- REPLY_SENT (R187, R193). -/
  | replySent
  /-- UNKNOWN_REQUEST (R188): an accepted frame whose kind names no request. -/
  | unknownRequest (dest : Dest) (kind : Byte)
  /-- STATUS (R174). -/
  | status (dest : Dest) (body : Body Unit)
  /-- NEXT_NOTICE (R191): the option byte. -/
  | nextNotice (dest : Dest) (body : Body Byte)
  /-- CARD_PRESENTED (R46). -/
  | cardPresented (dest : Dest) (body : Body CardPresentedF)
  /-- ONLINE_RESULT (R52). -/
  | onlineResult (dest : Dest) (body : Body OnlineResultF)
  /-- ACQUIRER_STATE (R51): the state code. -/
  | acquirerState (dest : Dest) (body : Body Byte)
  /-- CANCEL_AUTH (R62): a serial. -/
  | cancelAuth (dest : Dest) (body : Body W16)
  /-- AUTH_READ (R65). -/
  | authRead (dest : Dest) (body : Body AuthReadF)
  /-- POINT_READ (R110): a point number. -/
  | pointRead (dest : Dest) (body : Body Byte)
  /-- POINT_STATS (R155). -/
  | pointStats (dest : Dest) (body : Body PointOptionF)
  /-- STOP_POINT (R94). -/
  | stopPoint (dest : Dest) (body : Body StopPointF)
  /-- SUSPEND_POINT (R98): a point number. -/
  | suspendPoint (dest : Dest) (body : Body Byte)
  /-- RESUME_POINT (R99): a point number. -/
  | resumePoint (dest : Dest) (body : Body Byte)
  /-- FAULT_CLEAR (R107): a point number. -/
  | faultClear (dest : Dest) (body : Body Byte)
  /-- SALE_FETCH (R164). -/
  | saleFetch (dest : Dest) (body : Body SaleFetchF)
  /-- SALE_CLEAR (R165): a serial. -/
  | saleClear (dest : Dest) (body : Body W16)
  /-- PROFILE_WRITE (R5). -/
  | profileWrite (dest : Dest) (body : Body ProfileWriteF)
  /-- PROFILE_READ (R7): an index. -/
  | profileRead (dest : Dest) (body : Body Byte)
  /-- PROFILE_COUNT (R8): a count. -/
  | profileCount (dest : Dest) (body : Body Byte)
  /-- HOTLIST_ADD (R19). -/
  | hotlistAdd (dest : Dest) (body : Body CardWire)
  /-- HOTLIST_REMOVE (R21). -/
  | hotlistRemove (dest : Dest) (body : Body CardWire)
  /-- HOTLIST_CLEAR (R22). -/
  | hotlistClear (dest : Dest) (body : Body Unit)
  /-- HOTLIST_QUERY (R23). -/
  | hotlistQuery (dest : Dest) (body : Body CardWire)
  /-- HISTORY_READ (R40). -/
  | historyRead (dest : Dest) (body : Body CardWire)
  /-- DAY_CLOSE (R38). -/
  | dayClose (dest : Dest) (body : Body DateF)
  /-- CLOCK_SET (R192). -/
  | clockSet (dest : Dest) (body : Body TimeF)
  /-- LANE_CONFIG (R108). -/
  | laneConfig (dest : Dest) (body : Body LaneConfigF)
  /-- POINT_CONFIG (R139, R154, R180). -/
  | pointConfig (dest : Dest) (body : Body PointConfigF)
  /-- PRODUCT_CONFIG (R82). -/
  | productConfig (dest : Dest) (body : Body ProductConfigF)
  /-- SITE_CONFIG (R55, R84, R109, R121, R177). -/
  | siteConfig (dest : Dest) (body : Body SiteConfigF)
  /-- PUMP_RESET (R119): a pump code. -/
  | pumpReset (dest : Dest) (body : Body Byte)
  /-- SITE_RESUME (R170). -/
  | siteResume (dest : Dest) (body : Body Unit)
  /-- ALARM_MASK (R172). -/
  | alarmMask (dest : Dest) (body : Body AlarmMaskF)
  /-- ALARM_CLEAR (R173). -/
  | alarmClear (dest : Dest) (body : Body AlarmClearF)
  /-- COUNTERS_READ (R176). -/
  | countersRead (dest : Dest) (body : Body PointOptionF)
  /-- PROVE_START (R182): a point number. -/
  | proveStart (dest : Dest) (body : Body Byte)
  /-- PROVE_STOP (R184): a point number. -/
  | proveStop (dest : Dest) (body : Body Byte)
  /-- PROVE_RESULT (R185). -/
  | proveResult (dest : Dest) (body : Body ProveResultF)
  /-- CAL_LOG_READ (R179): a position. -/
  | calLogRead (dest : Dest) (body : Body Byte)
  /-- TOTALS_READ (R141): the first point. -/
  | totalsRead (dest : Dest) (body : Body Byte)
  /-- RESET (R193). -/
  | reset (dest : Dest) (body : Body Unit)
  /-- COLD_START (R64): return of supply, after `elapsed` seconds without it, with the inputs as read then. -/
  | coldStart (elapsed : Nat) (inputs : Inputs)
  /-- WARM_RESTART (R64): on RESET or a brown-out, with the inputs as read then. -/
  | warmRestart (cause : WarmCause) (inputs : Inputs)
  /-- NOZZLE_LIFT (R89). -/
  | nozzleLift (point : Point)
  /-- HANG_UP (R102). -/
  | hangUp (point : Point)
  /-- METER_TRANSITION (R123): the pair now read at a point's meter inputs. -/
  | meterTransition (point : Point) (pair : Pair) (order : CountOrder)
  /-- NO_FLOW_LIMIT (R148). -/
  | noFlowLimit (point : Point)
  /-- ESTOP_ASSERTION (R168). -/
  | estopAssertion
  /-- ESTOP_DEASSERTION (R169). -/
  | estopDeassertion
  /-- CAL_EN_ASSERTION (R178). -/
  | calEnAssertion
  /-- CAL_EN_DEASSERTION (R178). -/
  | calEnDeassertion
  /-- READY_ASSERTION (R114). -/
  | readyAssertion (pump : Pump)
  /-- READY_DEASSERTION (R117). -/
  | readyDeassertion (pump : Pump)
  /-- ONLINE_TIMER_EXPIRY (R50). -/
  | onlineTimerExpiry (slot : Slot)
  /-- ARMING_TIMER_EXPIRY (R56). -/
  | armingTimerExpiry (slot : Slot)
  /-- IDLE_CLOSE_EXPIRY (R60). -/
  | idleCloseExpiry (slot : Slot)
  /-- SOFT_STOP_TIMER_EXPIRY (R95). -/
  | softStopTimerExpiry (point : Point)
  /-- SUSPENSION_TIMER_EXPIRY (R100). -/
  | suspensionTimerExpiry (point : Point)
  /-- DRAIN_TIMER_EXPIRY (R103). -/
  | drainTimerExpiry (point : Point)
  /-- SPIN_UP_EXPIRY (R114). -/
  | spinUpExpiry (pump : Pump)
  /-- READY_WAIT_EXPIRY (R114). -/
  | readyWaitExpiry (pump : Pump)
  /-- RUN_ON_EXPIRY (R116). -/
  | runOnExpiry (pump : Pump)
  /-- REPORT_INTERVAL_EXPIRY (R177). -/
  | reportIntervalExpiry
  /-- PROVING_TAIL_TIMER_EXPIRY (R184). -/
  | provingTailTimerExpiry (point : Point)
  /-- PROVING_DRAIN_EXPIRY (R184). -/
  | provingDrainExpiry (point : Point)
  deriving DecidableEq, Repr

end Sys2Proof
end

