-- ==== Sys2Proof/Config.lean ====
section
/-! DEFINITION. Config.lean: the sizes and bounds the manual fixes for the part, and the one free value: what the
references of a proving run hold before they are loaded (log 46). What the manual leaves to the order of events is an
operand of the command concerned (DESIGN CHOICE, log 6). -/

namespace Sys2Proof.Config

/-- Ticks of the 100 µs time base in one second (00, "Physical scope"). -/
def ticksPerSecond : Nat := 10000

/-- Ticks in one tenth of a second, the step of the spin-up time (R121). -/
def ticksPerTenth : Nat := 1000

/-- The ticks a gap inside a frame may last: more than 10 ms abandons the frame (R187). -/
def maxGapTicks : Nat := 100

/-- Cap of reported volumes and amounts (R2), and saturation of a volume or amount (R68, R70, R138). -/
def maxReported : Nat := 9999999

/-- The largest money value of a hold or a requested amount, in cents (R46, R66). -/
def maxMoney : Nat := 999999

/-- Places of the hot list (R16). -/
def hotListSize : Nat := 1024

/-- Comparisons a search of a full hot list makes at most (R18). -/
def hotSearchComparisons : Nat := 11

/-- Places of the card history table (R32). -/
def historySize : Nat := 256

/-- Places of the notice queue (R190). -/
def noticeQueueSize : Nat := 64

/-- Places of the calibration log (R179). -/
def calLogSize : Nat := 32

/-- Entries one CAL LOG READ reply carries at most (R179). -/
def calLogReply : Nat := 8

/-- Bound of the 2-byte counters that saturate (R43, R134, R175, R179). -/
def maxCounter : Nat := 65535

/-- Bound of a pulse count (R132, R181). -/
def maxPulses : Int := 999999999

/-- Upper bound of a totaliser (R140). -/
def maxTotal : Nat := 18446744073709551615

/-- The highest rate a window reports (R146); the minimum rate's "none" is one above it (R143). -/
def maxRate : Nat := 65534

/-- The minimum rate while no window has completed since the last clear (R143). -/
def noRate : Nat := 65535

/-- Unauthorised counts that raise UNAUTH_FLOW (R134). -/
def unauthAlarmCount : Nat := 20

/-- Transitions of one channel, the other unchanged, that declare channel loss (R128). -/
def channelLossRun : Nat := 16

/-- Forward counts taken at the declaration of channel loss (R128). -/
def channelLossCounts : Nat := 8

/-- Valid forward cycles that clear channel loss (R130). -/
def channelClearRun : Nat := 64

/-- Marks the noise window holds (R122). -/
def noiseWindow : Nat := 256

/-- The most body bytes a frame may hold (R187). -/
def maxBody : Nat := 240

/-- Bounds of a calibration record (R136). -/
def minP : Nat := 10
def maxP : Nat := 5000
def maxC : Int := 50000

/-- What the start and the stop reference of a new run at a point hold until R183 and R184 load them: the manual states
no value (R181), and nothing reads it but the run's report (DESIGN CHOICE, log 46). -/
opaque unloadedStartReference : Point → Nat
opaque unloadedStopReference : Point → Nat

end Sys2Proof.Config
end

