-- ==== Sys2Proof/Decode.lean ====
section
/-! DEFINITION. Decode.lean: the words of the opcode table (it gives no row any bits, so none spells a command), and the
frames of the site link: byte order (R194), CRC (R187), kind codes (12 §12.5), and the request an accepted frame's body
names, with the body each request is laid out as (R188, R194). -/

namespace Sys2Proof

/-- spec/opcode_table.json gives no row fixed bits or fields, so no word spells a command. -/
def decodeTableWord (_nbits _w : Nat) : Option Instr := none

/-! ### Byte order (R194: big-endian) -/

/-- The number a run of bytes writes, first byte highest. -/
def beNat (bs : List Byte) : Nat := bs.foldl (fun n b => n * 256 + b.toNat) 0

/-- A number as `n` bytes, first byte highest. -/
def toBE : Nat → Nat → List Byte
  | 0, _ => []
  | n + 1, x => toBE n (x / 256) ++ [BitVec.ofNat 8 x]

/-- The field of `n` bytes that begins at byte `off`. -/
def fieldAt (bs : List Byte) (off n : Nat) : Nat := beNat ((bs.drop off).take n)

def byteAt (bs : List Byte) (off : Nat) : Byte := bs.getD off 0
def w16At (bs : List Byte) (off : Nat) : W16 := BitVec.ofNat 16 (fieldAt bs off 2)
def w32At (bs : List Byte) (off : Nat) : W32 := BitVec.ofNat 32 (fieldAt bs off 4)
def w40At (bs : List Byte) (off : Nat) : W40 := BitVec.ofNat 40 (fieldAt bs off 5)
def w80At (bs : List Byte) (off : Nat) : W80 := BitVec.ofNat 80 (fieldAt bs off 10)

def w16Bytes (w : W16) : List Byte := toBE 2 w.toNat
def w32Bytes (w : W32) : List Byte := toBE 4 w.toNat
def w40Bytes (w : W40) : List Byte := toBE 5 w.toNat
def w80Bytes (w : W80) : List Byte := toBE 10 w.toNat

/-! ### CRC (R187) -/

/-- One bit of the CRC register, most significant first, polynomial 0x1021. -/
def crcShift (c : W16) : W16 := if c.msb then (c <<< 1) ^^^ 0x1021#16 else c <<< 1

def crcByte (c : W16) (b : Byte) : W16 := Nat.repeat crcShift 8 (c ^^^ (b.setWidth 16 <<< 8))

/-- The CRC of a run of bytes, initial value 0xFFFF, no reflection, no final inversion. -/
def crc16 (bs : List Byte) : W16 := bs.foldl crcByte 0xFFFF#16

/-! ### Bodies -/

/-- A body of a fixed length. -/
def fixedBody {α : Type} (len : Nat) (f : List Byte → α) (bs : List Byte) : Body α :=
  if bs.length = len then .fields (f bs) else .wrongLength

def readCardWire (bs : List Byte) (off : Nat) : CardWire := ⟨byteAt bs off, w80At bs (off + 1)⟩

def readPromptWires : Nat → List Byte → List PromptWire
  | 0, _ => []
  | n + 1, bs => ⟨byteAt bs 0, byteAt bs 1, w32At bs 2⟩ :: readPromptWires n (bs.drop 6)

/-- CARD PRESENTED: its length follows its prompt count (R194). -/
def readCardPresented (bs : List Byte) : Body CardPresentedF :=
  if 21 ≤ bs.length ∧ bs.length = 21 + 6 * (byteAt bs 20).toNat then
    .fields
      { lane := byteAt bs 0, card := readCardWire bs 1, expiry := w16At bs 12, restriction := byteAt bs 14,
        amountPresent := byteAt bs 15, amount := w32At bs 16,
        prompts := readPromptWires (byteAt bs 20).toNat (bs.drop 21) }
  else .wrongLength

/-- ONLINE RESULT: its length follows its reference length (R194). -/
def readOnlineResult (bs : List Byte) : Body OnlineResultF :=
  if 8 ≤ bs.length ∧ bs.length = 15 + (byteAt bs 7).toNat then
    .fields
      { serial := w16At bs 0, result := byteAt bs 2, amount := w32At bs 3,
        reference := (bs.drop 8).take (byteAt bs 7).toNat,
        limitPresent := byteAt bs (8 + (byteAt bs 7).toNat), limit := w32At bs (9 + (byteAt bs 7).toNat),
        narrowPresent := byteAt bs (13 + (byteAt bs 7).toNat), narrow := byteAt bs (14 + (byteAt bs 7).toNat) }
  else .wrongLength

def readAuthRead (bs : List Byte) : AuthReadF := ⟨byteAt bs 0, w16At bs 1, byteAt bs 3⟩
def readPointOption (bs : List Byte) : PointOptionF := ⟨byteAt bs 0, byteAt bs 1⟩
def readStopPoint (bs : List Byte) : StopPointF := ⟨byteAt bs 0, byteAt bs 1⟩
def readSaleFetch (bs : List Byte) : SaleFetchF := ⟨byteAt bs 0, w16At bs 1⟩

def readProfileWrite (bs : List Byte) : ProfileWriteF where
  index := byteAt bs 0
  rangeLow := w40At bs 1
  rangeHigh := w40At bs 6
  cls := byteAt bs 11
  active := byteAt bs 12
  tier := byteAt bs 13
  allLanes := byteAt bs 14
  products := byteAt bs 15
  prompts := byteAt bs 16
  predicate := byteAt bs 17
  window := w16At bs 18
  onlineMode := byteAt bs 20
  onlineTimeout := byteAt bs 21
  floorLimit := w32At bs 22
  preAuth := w32At bs 26
  defCap := w32At bs 30
  rfrCap := w32At bs 34
  maxAuths := byteAt bs 38
  dailyCap := w32At bs 39

def readDateF (bs : List Byte) : DateF := ⟨w16At bs 0, byteAt bs 2, byteAt bs 3⟩
def readTimeF (bs : List Byte) : TimeF := ⟨readDateF bs, w32At bs 4⟩

def readLaneConfig (bs : List Byte) : LaneConfigF :=
  ⟨byteAt bs 0, byteAt bs 1, byteAt bs 2, byteAt bs 3, byteAt bs 4, byteAt bs 5⟩

def readPointConfig (bs : List Byte) : PointConfigF where
  point := byteAt bs 0
  noise := byteAt bs 1
  reverseAllowance := byteAt bs 2
  window := byteAt bs 3
  noFlowTime := byteAt bs 4
  surgeCode := byteAt bs 5
  surgeHold := byteAt bs 6
  p := w16At bs 7
  c := w32At bs 9

def readProductConfig (bs : List Byte) : ProductConfigF where
  product := byteAt bs 0
  price := w32At bs 1
  startBand := w16At bs 5
  slowDown := w16At bs 7
  closeAhead := w16At bs 9
  softStop := w16At bs 11
  tolerance := w16At bs 13

def readPumpSettingsF (bs : List Byte) (off : Nat) : PumpSettingsF :=
  ⟨byteAt bs off, byteAt bs (off + 1), byteAt bs (off + 2), byteAt bs (off + 3)⟩

def readSiteConfig (bs : List Byte) : SiteConfigF where
  armingTime := w16At bs 0
  idleCloseTime := w16At bs 2
  deliveryMax := w32At bs 4
  softStopTime := byteAt bs 8
  drainTime := byteAt bs 9
  suspensionLimit := w16At bs 10
  pumpA := readPumpSettingsF bs 12
  pumpB := readPumpSettingsF bs 16
  pumpC := readPumpSettingsF bs 20
  reportMode := byteAt bs 24
  reportInterval := w16At bs 25

def readAlarmMask (bs : List Byte) : AlarmMaskF := ⟨byteAt bs 0, byteAt bs 1, byteAt bs 2, byteAt bs 3⟩
def readAlarmClear (bs : List Byte) : AlarmClearF := ⟨byteAt bs 0, byteAt bs 1⟩
def readProveResult (bs : List Byte) : ProveResultF := ⟨byteAt bs 0, w32At bs 1⟩

/-- A body of one byte, two bytes, one card number, or none. -/
def byteBody (bs : List Byte) : Body Byte := fixedBody 1 (fun l => byteAt l 0) bs
def w16Body (bs : List Byte) : Body W16 := fixedBody 2 (fun l => w16At l 0) bs
def cardBody (bs : List Byte) : Body CardWire := fixedBody 11 (fun l => readCardWire l 0) bs
def emptyBody (bs : List Byte) : Body Unit := fixedBody 0 (fun _ => ()) bs

/-- The request a kind code names, over the bytes after it; a kind that names no request is UNKNOWN_REQUEST
(R188, 12 §12.5). -/
def decodeKind (d : Dest) (kind : Byte) (bs : List Byte) : Instr :=
  match kind.toNat with
  | 0x01 => .status d (emptyBody bs)
  | 0x02 => .nextNotice d (byteBody bs)
  | 0x10 => .cardPresented d (readCardPresented bs)
  | 0x11 => .onlineResult d (readOnlineResult bs)
  | 0x12 => .acquirerState d (byteBody bs)
  | 0x13 => .cancelAuth d (w16Body bs)
  | 0x14 => .authRead d (fixedBody 4 readAuthRead bs)
  | 0x20 => .pointRead d (byteBody bs)
  | 0x21 => .pointStats d (fixedBody 2 readPointOption bs)
  | 0x22 => .stopPoint d (fixedBody 2 readStopPoint bs)
  | 0x23 => .suspendPoint d (byteBody bs)
  | 0x24 => .resumePoint d (byteBody bs)
  | 0x25 => .faultClear d (byteBody bs)
  | 0x28 => .saleFetch d (fixedBody 3 readSaleFetch bs)
  | 0x29 => .saleClear d (w16Body bs)
  | 0x30 => .profileWrite d (fixedBody 43 readProfileWrite bs)
  | 0x31 => .profileRead d (byteBody bs)
  | 0x32 => .profileCount d (byteBody bs)
  | 0x33 => .hotlistAdd d (cardBody bs)
  | 0x34 => .hotlistRemove d (cardBody bs)
  | 0x35 => .hotlistClear d (emptyBody bs)
  | 0x36 => .hotlistQuery d (cardBody bs)
  | 0x37 => .historyRead d (cardBody bs)
  | 0x38 => .dayClose d (fixedBody 4 readDateF bs)
  | 0x39 => .clockSet d (fixedBody 8 readTimeF bs)
  | 0x40 => .laneConfig d (fixedBody 6 readLaneConfig bs)
  | 0x41 => .pointConfig d (fixedBody 13 readPointConfig bs)
  | 0x42 => .productConfig d (fixedBody 15 readProductConfig bs)
  | 0x43 => .siteConfig d (fixedBody 27 readSiteConfig bs)
  | 0x48 => .pumpReset d (byteBody bs)
  | 0x49 => .siteResume d (emptyBody bs)
  | 0x4A => .alarmMask d (fixedBody 4 readAlarmMask bs)
  | 0x4B => .alarmClear d (fixedBody 2 readAlarmClear bs)
  | 0x4C => .countersRead d (fixedBody 2 readPointOption bs)
  | 0x50 => .proveStart d (byteBody bs)
  | 0x51 => .proveStop d (byteBody bs)
  | 0x52 => .proveResult d (fixedBody 5 readProveResult bs)
  | 0x53 => .calLogRead d (byteBody bs)
  | 0x54 => .totalsRead d (byteBody bs)
  | 0x7F => .reset d (emptyBody bs)
  | _ => .unknownRequest d kind

/-- The request an accepted frame's body names: its first byte is the kind (R188). -/
def decodeBody (d : Dest) (body : List Byte) : Instr :=
  match body with
  | [] => .unknownRequest d 0
  | kind :: bs => decodeKind d kind bs

/-- The kind codes that name a request (12 §12.5). -/
def requestKinds : List Nat :=
  [0x01, 0x02, 0x10, 0x11, 0x12, 0x13, 0x14, 0x20, 0x21, 0x22, 0x23, 0x24, 0x25, 0x28, 0x29, 0x30, 0x31, 0x32, 0x33,
   0x34, 0x35, 0x36, 0x37, 0x38, 0x39, 0x40, 0x41, 0x42, 0x43, 0x48, 0x49, 0x4A, 0x4B, 0x4C, 0x50, 0x51, 0x52, 0x53,
   0x54, 0x7F]

/-! ### Encoder -/

def cardBytes (c : CardWire) : List Byte := c.count :: w80Bytes c.bcd

def promptBytes (w : PromptWire) : List Byte := w.kind :: w.count :: w32Bytes w.value

def cardPresentedBytes (f : CardPresentedF) : List Byte :=
  [f.lane] ++ cardBytes f.card ++ w16Bytes f.expiry ++ [f.restriction, f.amountPresent] ++ w32Bytes f.amount
    ++ [BitVec.ofNat 8 f.prompts.length] ++ f.prompts.flatMap promptBytes

def onlineResultBytes (f : OnlineResultF) : List Byte :=
  w16Bytes f.serial ++ [f.result] ++ w32Bytes f.amount ++ [BitVec.ofNat 8 f.reference.length] ++ f.reference
    ++ [f.limitPresent] ++ w32Bytes f.limit ++ [f.narrowPresent, f.narrow]

def profileWriteBytes (f : ProfileWriteF) : List Byte :=
  [f.index] ++ w40Bytes f.rangeLow ++ w40Bytes f.rangeHigh
    ++ [f.cls, f.active, f.tier, f.allLanes, f.products, f.prompts, f.predicate] ++ w16Bytes f.window
    ++ [f.onlineMode, f.onlineTimeout] ++ w32Bytes f.floorLimit ++ w32Bytes f.preAuth ++ w32Bytes f.defCap
    ++ w32Bytes f.rfrCap ++ [f.maxAuths] ++ w32Bytes f.dailyCap

def dateBytes (f : DateF) : List Byte := w16Bytes f.year ++ [f.month, f.day]

def pointConfigBytes (f : PointConfigF) : List Byte :=
  [f.point, f.noise, f.reverseAllowance, f.window, f.noFlowTime, f.surgeCode, f.surgeHold] ++ w16Bytes f.p
    ++ w32Bytes f.c

def productConfigBytes (f : ProductConfigF) : List Byte :=
  [f.product] ++ w32Bytes f.price ++ w16Bytes f.startBand ++ w16Bytes f.slowDown ++ w16Bytes f.closeAhead
    ++ w16Bytes f.softStop ++ w16Bytes f.tolerance

def pumpSettingsBytes (f : PumpSettingsF) : List Byte := [f.readyCheck, f.spinUp, f.readyWait, f.runOn]

def siteConfigBytes (f : SiteConfigF) : List Byte :=
  w16Bytes f.armingTime ++ w16Bytes f.idleCloseTime ++ w32Bytes f.deliveryMax ++ [f.softStopTime, f.drainTime]
    ++ w16Bytes f.suspensionLimit ++ pumpSettingsBytes f.pumpA ++ pumpSettingsBytes f.pumpB
    ++ pumpSettingsBytes f.pumpC ++ [f.reportMode] ++ w16Bytes f.reportInterval

/-- The body of a request frame: kind byte and fields (R194); none for a command that is no request, or a body of the
wrong length. -/
def encodeBody (i : Instr) : Option (List Byte) :=
  match i with
  | .status _ (.fields _) => some [0x01]
  | .nextNotice _ (.fields f) => some [0x02, f]
  | .cardPresented _ (.fields f) => some (0x10 :: cardPresentedBytes f)
  | .onlineResult _ (.fields f) => some (0x11 :: onlineResultBytes f)
  | .acquirerState _ (.fields f) => some [0x12, f]
  | .cancelAuth _ (.fields f) => some (0x13 :: w16Bytes f)
  | .authRead _ (.fields f) => some ([0x14, f.marker] ++ w16Bytes f.which ++ [f.part])
  | .pointRead _ (.fields f) => some [0x20, f]
  | .pointStats _ (.fields f) => some [0x21, f.point, f.option]
  | .stopPoint _ (.fields f) => some [0x22, f.point, f.mode]
  | .suspendPoint _ (.fields f) => some [0x23, f]
  | .resumePoint _ (.fields f) => some [0x24, f]
  | .faultClear _ (.fields f) => some [0x25, f]
  | .saleFetch _ (.fields f) => some ([0x28, f.present] ++ w16Bytes f.serial)
  | .saleClear _ (.fields f) => some (0x29 :: w16Bytes f)
  | .profileWrite _ (.fields f) => some (0x30 :: profileWriteBytes f)
  | .profileRead _ (.fields f) => some [0x31, f]
  | .profileCount _ (.fields f) => some [0x32, f]
  | .hotlistAdd _ (.fields f) => some (0x33 :: cardBytes f)
  | .hotlistRemove _ (.fields f) => some (0x34 :: cardBytes f)
  | .hotlistClear _ (.fields _) => some [0x35]
  | .hotlistQuery _ (.fields f) => some (0x36 :: cardBytes f)
  | .historyRead _ (.fields f) => some (0x37 :: cardBytes f)
  | .dayClose _ (.fields f) => some (0x38 :: dateBytes f)
  | .clockSet _ (.fields f) => some (0x39 :: (dateBytes f.date ++ w32Bytes f.second))
  | .laneConfig _ (.fields f) => some [0x40, f.lane, f.enabled, f.tier, f.sFitted, f.sProduct, f.dFitted]
  | .pointConfig _ (.fields f) => some (0x41 :: pointConfigBytes f)
  | .productConfig _ (.fields f) => some (0x42 :: productConfigBytes f)
  | .siteConfig _ (.fields f) => some (0x43 :: siteConfigBytes f)
  | .pumpReset _ (.fields f) => some [0x48, f]
  | .siteResume _ (.fields _) => some [0x49]
  | .alarmMask _ (.fields f) => some [0x4A, f.kind, f.subject, f.mask, f.edge]
  | .alarmClear _ (.fields f) => some [0x4B, f.kind, f.subject]
  | .countersRead _ (.fields f) => some [0x4C, f.point, f.option]
  | .proveStart _ (.fields f) => some [0x50, f]
  | .proveStop _ (.fields f) => some [0x51, f]
  | .proveResult _ (.fields f) => some ([0x52, f.point] ++ w32Bytes f.volume)
  | .calLogRead _ (.fields f) => some [0x53, f]
  | .totalsRead _ (.fields f) => some [0x54, f]
  | .reset _ (.fields _) => some [0x7F]
  | _ => none

/-- Where a command's frame was addressed; a command that is no request counts as sent to this station. -/
def Instr.dest (i : Instr) : Dest :=
  match i with
  | .unknownRequest d _ | .status d _ | .nextNotice d _ | .cardPresented d _ | .onlineResult d _ | .acquirerState d _
  | .cancelAuth d _ | .authRead d _ | .pointRead d _ | .pointStats d _ | .stopPoint d _ | .suspendPoint d _
  | .resumePoint d _ | .faultClear d _ | .saleFetch d _ | .saleClear d _ | .profileWrite d _ | .profileRead d _
  | .profileCount d _ | .hotlistAdd d _ | .hotlistRemove d _ | .hotlistClear d _ | .hotlistQuery d _
  | .historyRead d _ | .dayClose d _ | .clockSet d _ | .laneConfig d _ | .pointConfig d _ | .productConfig d _
  | .siteConfig d _ | .pumpReset d _ | .siteResume d _ | .alarmMask d _ | .alarmClear d _ | .countersRead d _
  | .proveStart d _ | .proveStop d _ | .proveResult d _ | .calLogRead d _ | .totalsRead d _ | .reset d _ => d
  | .frameByteReceived _ _ | .frameGapTimeout | .replySent | .coldStart _ _ | .warmRestart _ _ | .nozzleLift _
  | .hangUp _ | .meterTransition _ _ _ | .noFlowLimit _ | .estopAssertion | .estopDeassertion | .calEnAssertion
  | .calEnDeassertion | .readyAssertion _ | .readyDeassertion _ | .onlineTimerExpiry _ | .armingTimerExpiry _
  | .idleCloseExpiry _ | .softStopTimerExpiry _ | .suspensionTimerExpiry _ | .drainTimerExpiry _ | .spinUpExpiry _
  | .readyWaitExpiry _ | .runOnExpiry _ | .reportIntervalExpiry | .provingTailTimerExpiry _
  | .provingDrainExpiry _ => .station

/-- The bytes of a request frame on the line: start byte, address, length, body, CRC high byte first (R187, R194). -/
def frameBytes (address : Byte) (body : List Byte) : List Byte :=
  let covered := address :: BitVec.ofNat 8 body.length :: body
  0x02 :: covered ++ w16Bytes (crc16 covered)

end Sys2Proof
end

