-- ==== Sys2Proof/Machine/State.lean ====
section
/-! DEFINITION. Machine/State.lean: every piece of state the manual gives the DN-618, as plain data, and the machine
right after reset. Fields that are the model's own are marked so and named in the assumption log. -/

namespace Sys2Proof.Machine

open Sys2Proof

/-! ### Values -/

/-- A calendar date. -/
structure Date where
  year : Nat
  month : Nat
  day : Nat
  deriving DecidableEq, Repr

/-- A site time: the site date and the second of the day (R2). -/
structure Time where
  date : Date
  second : Nat
  deriving DecidableEq, Repr

/-- A card number: its digit count and its numeric value (R3); leading zeros are kept by the count. -/
structure CardNumber where
  digits : Nat
  value : Nat
  deriving DecidableEq, Repr

/-- A card expiry: year 2000 + `year`, and month (R47). -/
structure Expiry where
  year : Nat
  month : Nat
  deriving DecidableEq, Repr

/-- A subset of the products DSL, RFR, DEF (R194). -/
structure ProductSet where
  dsl : Bool
  rfr : Bool
  defl : Bool
  deriving DecidableEq, Repr

/-- The kinds of prompt (02 §2.1). -/
inductive PromptKind where
  | odometer | unit | driver | reeferHours
  deriving DecidableEq, Repr

/-- A subset of the prompt kinds (R194). -/
structure PromptSet where
  odometer : Bool
  unit : Bool
  driver : Bool
  reeferHours : Bool
  deriving DecidableEq, Repr

/-- A prompt as stored in a record (R27): kind, digit count (0 for the number kinds) and the value's 4 bytes. -/
structure Prompt where
  kind : PromptKind
  count : Byte
  value : W32
  deriving DecidableEq, Repr

/-- The channels of a pulser. -/
inductive Channel where
  | a | b
  deriving DecidableEq, Repr

/-! ### Card screening unit -/

inductive ProfileClass where
  | fleet | bank | siteAccount
  deriving DecidableEq, Repr

inductive OnlineMode where
  | alwaysOnline | onlinePreferred | offlineOnly
  deriving DecidableEq, Repr

/-- An entry of the card profile table (01 §1.1). -/
structure Profile where
  rangeLow : Nat
  rangeHigh : Nat
  cls : ProfileClass
  active : Bool
  tier : Nat
  allLanes : Bool
  products : ProductSet
  prompts : PromptSet
  predicate : Nat
  window : Nat
  onlineMode : OnlineMode
  onlineTimeout : Nat
  floorLimit : Nat
  preAuth : Nat
  defCap : Nat
  rfrCap : Nat
  maxAuths : Nat
  dailyCap : Nat
  deriving DecidableEq, Repr

/-- An entry of the card history table (02 §2.3). Pinned is derived, not stored (R32). -/
structure HistoryEntry where
  card : CardNumber
  auths : Nat
  volume : Nat
  lastOdometer : Option Nat
  failures : Nat
  lastUse : Time
  deriving DecidableEq, Repr

/-- The card screening unit: profile table and valid count (R4), hot list (R16), card history in recency order, front
first (R32). -/
structure Screening where
  profiles : Vector Profile 64
  valid : Nat
  hotList : List CardNumber
  history : List HistoryEntry
  deriving DecidableEq, Repr

/-! ### Authorization manager -/

inductive LineState where
  | unopened | opened | final
  deriving DecidableEq, Repr

/-- A member of a line: its point (R67), and the point's current volume V in the line volume (R68; the model keeps it
beside the point, DESIGN CHOICE, log 30). -/
structure Member where
  point : Point
  volume : Nat
  deriving DecidableEq, Repr

/-- A line record (04 §4.1). For a FINAL secondary line `reservation` is its charge (R76). -/
structure Line where
  state : LineState
  price : Option Nat
  allowance : Nat
  reservation : Nat
  limit : Nat
  volume : Nat
  amount : Nat
  members : List Member
  overrun : Nat
  deriving DecidableEq, Repr

/-- The three lines of a record (R66). -/
structure Lines where
  dsl : Line
  rfr : Line
  defl : Line
  deriving DecidableEq, Repr

inductive RecordState where
  | awaitOnline | armed | delivering | idleOpen | settled
  deriving DecidableEq, Repr

/-- The end reasons of a record (03 §3.1). -/
inductive RecordEnd where
  | idleClose | allDelivered | cancel | lateDecline | estop | powerFail | reset
  deriving DecidableEq, Repr

/-- The end reasons of a delivery (R101). -/
inductive EndReason where
  | limit | noFunds | hostStop | cancel | lateDecline | suspendTimeout | noFlow | reverse | meterNoise | pumpFail
  | estop | hangUp | alreadyDelivered | powerFail | reset
  deriving DecidableEq, Repr

/-- The flags of a record (03 §3.1). -/
structure RecordFlags where
  standin : Bool
  confirmed : Bool
  lateDecline : Bool
  closing : Bool
  sat : Bool
  overHold : Bool
  degraded : Bool
  deriving DecidableEq, Repr

inductive LiveTimerKind where
  | online | arming | idleClose
  deriving DecidableEq, Repr

/-- A running live timer; `left` is its remaining time in ticks (DESIGN CHOICE, log 11). -/
structure LiveTimer where
  kind : LiveTimerKind
  left : Nat
  deriving DecidableEq, Repr

/-- The profile snapshot of a record (R14). -/
structure Snapshot where
  cls : ProfileClass
  allowed : ProductSet
  onlineMode : OnlineMode
  onlineTimeout : Nat
  floorLimit : Nat
  defCap : Nat
  rfrCap : Nat
  capRemaining : Option Nat
  deriving DecidableEq, Repr

/-- An entry of a record's delivery list (R159). -/
structure DeliveryEntry where
  point : Point
  line : Product
  volume : Nat
  endReason : EndReason
  start : Time
  degraded : Bool
  sat : Bool
  deriving DecidableEq, Repr

/-- An authorization record (03 §3.1); a SETTLED record is a sale (R157). -/
structure AuthRecord where
  serial : Nat
  state : RecordState
  lane : Lane
  card : CardNumber
  expiry : Expiry
  profile : Nat
  snapshot : Snapshot
  requested : Nat
  hold : Option Nat
  flags : RecordFlags
  reference : Option (List Byte)
  prompts : List Prompt
  onlineLimit : Option Nat
  timer : Option LiveTimer
  lines : Lines
  bound : List Point
  delivered : List Point
  deliveries : List DeliveryEntry
  created : Time
  firstFlow : Option Time
  settledAt : Option Time
  endReason : Option RecordEnd
  deriving DecidableEq, Repr

/-- The authorization manager's table, serial counter (R43) and sale queue, head first (R157). -/
structure AuthTable where
  slots : Vector (Option AuthRecord) 24
  serial : Nat
  sales : List Nat
  deriving DecidableEq, Repr

/-! ### Product table and configuration -/

/-- An entry of the product table (04 §4.5). -/
structure ProductEntry where
  price : Nat
  startBand : Nat
  slowDown : Nat
  closeAhead : Nat
  softStop : Nat
  tolerance : Nat
  deriving DecidableEq, Repr

structure ProductTable where
  dsl : ProductEntry
  rfr : ProductEntry
  defl : ProductEntry
  deriving DecidableEq, Repr

/-- The settings of one pump sequencer (R121); the spin-up time is in tenths of a second. -/
structure PumpSettings where
  readyCheck : Bool
  spinUp : Nat
  readyWait : Nat
  runOn : Nat
  deriving DecidableEq, Repr

inductive ReportMode where
  | manual | auto
  deriving DecidableEq, Repr

/-- The settings SITE CONFIG carries (R55, R84, R109, R121, R177). -/
structure SiteConfig where
  armingTime : Nat
  idleCloseTime : Nat
  deliveryMax : Nat
  softStopTime : Nat
  drainTime : Nat
  suspensionLimit : Nat
  pumpA : PumpSettings
  pumpB : PumpSettings
  pumpC : PumpSettings
  reportMode : ReportMode
  reportInterval : Nat
  deriving DecidableEq, Repr

/-- A lane's settings (R108). -/
structure LaneConfig where
  enabled : Bool
  tier : Nat
  sFitted : Bool
  sProduct : Product
  dFitted : Bool
  deriving DecidableEq, Repr

inductive NoiseCriterion where
  | strict | lenient
  deriving DecidableEq, Repr

/-- A calibration record (R136). -/
structure Calibration where
  p : Nat
  c : Int
  deriving DecidableEq, Repr

/-- The settings of a point's metering unit and flow monitor (R139, R154). -/
structure PointConfig where
  noise : NoiseCriterion
  reverseAllowance : Nat
  window : Nat
  noFlowTime : Nat
  surgeCode : Nat
  surgeHold : Bool
  deriving DecidableEq, Repr

/-! ### Fuelling points -/

inductive PointState where
  | idle | calling | waitPump | softStart | fast | slowDown | stopping | suspended | finished | proving | outOfService
  deriving DecidableEq, Repr

inductive ValveStage where
  | closed | slow | fast
  deriving DecidableEq, Repr

inductive Nozzle where
  | hung | lifted
  deriving DecidableEq, Repr

inductive SuspendCause where
  | host | surge
  deriving DecidableEq, Repr

structure Binding where
  serial : Nat
  line : Product
  deriving DecidableEq, Repr

inductive PointTimerKind where
  | softStop | suspension | drain
  deriving DecidableEq, Repr

/-- A running point timer; `left` is its remaining time in ticks (DESIGN CHOICE, log 11). -/
structure PointTimer where
  kind : PointTimerKind
  left : Nat
  deriving DecidableEq, Repr

/-- The delivery record of a point (R105). -/
structure Delivery where
  serial : Nat
  line : Product
  net : Int
  peak : Int
  volume : Nat
  degraded : Bool
  sat : Bool
  start : Time
  endReason : Option EndReason
  backLink : Option Point
  final : Bool
  deriving DecidableEq, Repr

inductive ProvePhase where
  | liftWait | pumpWait | slow | fast | tail | drain | done
  deriving DecidableEq, Repr

inductive ProveEnd where
  | hostStop | hangUp | noFlow | surge | reverse | meterNoise | pumpFail | estop
  deriving DecidableEq, Repr

/-- The proving run record (R181); the run volume is formed from `net` (R137). -/
structure ProvingRun where
  phase : ProvePhase
  net : Int
  peak : Int
  startRef : Nat
  stopRef : Nat
  endCause : Option ProveEnd
  measured : Option Int
  totalised : Bool
  deriving DecidableEq, Repr

/-- The point record of a point controller (R87) with its proving run (R181). `softReason` is the reason of the soft
stop running in STOPPING (R95; DESIGN CHOICE, log 30). -/
structure PointRecord where
  state : PointState
  stage : ValveStage
  nozzle : Nozzle
  binding : Option Binding
  suspendCause : Option SuspendCause
  finishReason : Option EndReason
  softReason : Option EndReason
  stopPending : Option EndReason
  startRef : Nat
  stopRef : Nat
  timer : Option PointTimer
  faultLatch : Bool
  delivery : Option Delivery
  proving : Option ProvingRun
  deriving DecidableEq, Repr

/-! ### Metering units and flow monitors -/

/-- The cycle progress of a decoder (R122). -/
inductive Progress where
  | at (n : Int)
  | abandoned
  deriving DecidableEq, Repr

inductive ChannelLoss where
  | normal
  | declared (live : Channel)
  deriving DecidableEq, Repr

/-- A metering unit (R122). `marks` is the noise window, newest mark first, true for PHASE_ERROR. `forwardRun` counts
forward steps in a row, up to 4 (R130; DESIGN CHOICE, log 30). -/
structure Meter where
  pair : Pair
  progress : Progress
  forwardRun : Nat
  marks : List Bool
  noiseMet : Bool
  runA : Nat
  runB : Nat
  loss : ChannelLoss
  clearRun : Nat
  reverseFound : Bool
  unauthorised : Nat
  deriving DecidableEq, Repr

/-- A flow monitor (R143). `size` is the window size W. -/
structure Monitor where
  active : Bool
  size : Nat
  count : Nat
  ticks : Nat
  noFlowLimit : Nat
  frozen : Bool
  reference : Option Nat
  settle : Nat
  latest : Nat
  peak : Nat
  minimum : Nat
  deriving DecidableEq, Repr

/-- One point: its controller, metering unit, flow monitor, settings, calibration record, totaliser (R140), and the
pair standing at its meter inputs. -/
structure PointUnit where
  ctl : PointRecord
  meter : Meter
  monitor : Monitor
  config : PointConfig
  cal : Calibration
  totaliser : Nat
  inputPair : Pair
  deriving DecidableEq, Repr

/-! ### Supply pumps -/

inductive PumpState where
  | stopped | starting | running | runOn | failed
  deriving DecidableEq, Repr

inductive PumpTimerKind where
  | spinUp | readyWait | runOn
  deriving DecidableEq, Repr

structure PumpTimer where
  kind : PumpTimerKind
  left : Nat
  deriving DecidableEq, Repr

inductive PumpCause where
  | readyTimeout | readyLost
  deriving DecidableEq, Repr

/-- A pump record (R112). The demand set is held in ascending point order; the RUN output follows
from the state (`State.runOutput`). -/
structure PumpRecord where
  state : PumpState
  ready : Bool
  demand : List Point
  timer : Option PumpTimer
  cause : Option PumpCause
  deriving DecidableEq, Repr

structure Pumps where
  a : PumpRecord
  b : PumpRecord
  c : PumpRecord
  deriving DecidableEq, Repr

/-! ### Site supervisor -/

/-- The per-point alarm kinds (10 §10.2), in the order of their codes (R194). -/
inductive PointAlarm where
  | channelLoss | meterNoise | reverseFlow | surge | flowDrop | unauthFlow | overrun | counterFull
  deriving DecidableEq, Repr

/-- The site alarm kinds, in the order of their codes (R194). -/
inductive SiteAlarm where
  | estop | calEnabled | pumpFailA | pumpFailB | pumpFailC
  deriving DecidableEq, Repr

inductive AlarmKind where
  | point (k : PointAlarm)
  | site (k : SiteAlarm)
  deriving DecidableEq, Repr

inductive EdgeSelect where
  | rise | riseFall
  deriving DecidableEq, Repr

/-- The four things the supervisor holds for one kind and subject (R171). The notified bit of ESTOP is not used: the
notice block stands in its place. -/
structure AlarmCell where
  latched : Bool
  mask : Bool
  edge : EdgeSelect
  notified : Bool
  deriving DecidableEq, Repr

structure PointAlarms where
  channelLoss : AlarmCell
  meterNoise : AlarmCell
  reverseFlow : AlarmCell
  surge : AlarmCell
  flowDrop : AlarmCell
  unauthFlow : AlarmCell
  overrun : AlarmCell
  counterFull : AlarmCell
  deriving DecidableEq, Repr

structure SiteAlarms where
  estop : AlarmCell
  calEnabled : AlarmCell
  pumpFailA : AlarmCell
  pumpFailB : AlarmCell
  pumpFailC : AlarmCell
  deriving DecidableEq, Repr

/-- The fault counters (R175). -/
inductive FaultCounter where
  | phase | chloss | reverse | surge | noflow | unauth
  deriving DecidableEq, Repr

structure Counters where
  phase : Nat
  chloss : Nat
  reverse : Nat
  surge : Nat
  noflow : Nat
  unauth : Nat
  deriving DecidableEq, Repr

/-- The site supervisor (R167, R171, R175, R177); `reportTimer` is the interval timer's remaining time in ticks. -/
structure Supervisor where
  estopInput : Bool
  estopLatch : Bool
  noticeBlock : Bool
  pointAlarms : Vector PointAlarms 18
  siteAlarms : SiteAlarms
  counters : Vector Counters 18
  snapshots : Vector Counters 18
  snapshotTime : Option Time
  reportTimer : Option Nat
  deriving DecidableEq, Repr

/-! ### Calibration and retained store -/

inductive CalSource where
  | proveResult | pointConfig
  deriving DecidableEq, Repr

/-- An entry of the calibration log (R179). -/
structure CalEntry where
  counter : Nat
  point : Point
  source : CalSource
  old : Calibration
  new : Calibration
  time : Time
  deriving DecidableEq, Repr

/-- CAL_EN, the calibration event counter and the calibration log, newest entry first (R178, R179). -/
structure CalStore where
  enabled : Bool
  counter : Nat
  log : List CalEntry
  deriving DecidableEq, Repr

/-! ### Notices -/

inductive RestartCause where
  | cold | resetRequest | brownOut
  deriving DecidableEq, Repr

/-- The outcomes an AUTH_RESULT carries, with the reasons of CANCELLED (R194). -/
inductive AuthOutcome where
  | standin | declinedTimeout | expired | cancelledHotCard | cancelledLateDecline | cancelledEstop
  deriving DecidableEq, Repr

/-- What a notice reports (R194); the subject of each is part of it. -/
inductive NoticeBody where
  | restarted (cause : RestartCause) (settled freed : Nat)
  | authResult (serial : Nat) (lane : Lane) (outcome : AuthOutcome) (hold : Nat)
  | pointFinal (point : Point) (serial : Nat) (line : Product) (volume : Nat) (reason : EndReason)
  | pointLiftOos (point : Point)
  | saleReady (serial : Nat) (lane : Lane) (reason : Option RecordEnd) (total : Nat)
  | pointAlarm (kind : PointAlarm) (point : Point) (set : Bool)
  | siteAlarm (kind : SiteAlarm) (set : Bool)
  | estop (asserted latch : Bool) (records : Nat)
  | counterReport (point : Point) (snapshot : Counters) (time : Option Time)
  | pumpStarted (pump : Pump)
  | pumpStopped (pump : Pump)
  | pumpFailed (pump : Pump) (cause : PumpCause) (finished : Nat)
  | calChanged (point : Point) (counter : Nat) (source : CalSource) (old new : Calibration)
  deriving DecidableEq, Repr

/-- A notice of the queue: the site time at which it was queued, and what it reports (R190). -/
structure Notice where
  time : Time
  body : NoticeBody
  deriving DecidableEq, Repr

/-! ### Replies -/

/-- Reply statuses (R189). -/
inductive Status where
  | ok | okClamped | malformed | unknownRequest | outOfRange | wrongState | laneBusy | tableFull | siteStopped
  | calLocked | unknownAuth | late | listFull | inputActive | notFound
  deriving DecidableEq, Repr

/-- The reasons of a DECLINED card read (R194). -/
inductive Decline where
  | badCard | expired | hotCard | noTable | unknownRange | profileInactive | laneNotPermitted | product | cardInUse
  | velocity | odometer | offline
  deriving DecidableEq, Repr

/-- A record as SALE FETCH and AUTH READ part 1 carry it: the record, its place in the sale queue (none for a live
record) and the queue length (R65, R164, R194). -/
structure SaleReport where
  slot : Slot
  record : AuthRecord
  position : Option Nat
  length : Nat
  totalAmount : Nat
  totalCharge : Nat
  sat : Bool
  deriving DecidableEq, Repr

/-- AUTH READ part 2 (R65, R194). -/
structure AuthPartTwo where
  slot : Slot
  record : AuthRecord
  timerSeconds : Nat
  backLink : Option Point
  deriving DecidableEq, Repr

/-- The data of POINT READ (R110), with the proving run record (R181). -/
structure PointReport where
  point : Point
  ctl : PointRecord
  timerSeconds : Nat
  fitted : Bool
  lineVolume : Nat
  lineAmount : Nat
  latestRate : Nat
  runVolume : Option Nat
  deriving DecidableEq, Repr

/-- The data of POINT STATS (R155). -/
structure StatsReport where
  active : Bool
  size : Option Nat
  latest : Nat
  peak : Nat
  minimum : Nat
  settle : Nat
  reference : Option Nat
  config : PointConfig
  deriving DecidableEq, Repr

/-- The data of STATUS (R174). -/
structure StatusReport where
  lanes : List Bool
  siteAlarms : List Bool
  estopLatch : Bool
  estopInput : Bool
  noticeBlock : Bool
  acquirerUp : Bool
  notices : Nat
  sales : Nat
  overflow : Bool
  deriving DecidableEq, Repr

/-- The data of COUNTERS READ (R176). -/
structure CountersReport where
  mode : ReportMode
  snapshotTime : Option Time
  snapshot : Counters
  counters : Counters
  alarms : PointAlarms
  deriving DecidableEq, Repr

/-- The data of HISTORY READ for a card with an entry (R40). -/
structure HistoryReport where
  entry : HistoryEntry
  pinned : Bool
  serial : Nat
  position : Nat
  size : Nat
  business : Date
  deriving DecidableEq, Repr

/-- One point of a TOTALS READ reply (R141). -/
structure TotalsEntry where
  totaliser : Nat
  cal : Calibration
  faultLatch : Bool
  deriving DecidableEq, Repr

/-- A proving run as replies carry it: the run record and its run volume (R181). -/
structure RunReport where
  run : ProvingRun
  volume : Nat
  deriving DecidableEq, Repr

/-- The data of an ACCEPTED card read (R48): `state` is the state R49 gives. -/
structure AcceptedReport where
  slot : Slot
  record : AuthRecord
  state : RecordState
  deriving DecidableEq, Repr

/-- The data of a reply, as the owning rule gives it. `none` is a reply with no data. -/
inductive ReplyData where
  | none
  | status (r : StatusReport)
  | notice (left : Nat) (n : Option Notice)
  | accepted (r : AcceptedReport)
  | promptNeeded (missing : PromptSet) (retries : Nat)
  | declined (reason : Decline) (lane : Option Lane)
  | promptKind (k : PromptKind)
  | laneBusy (serial : Nat) (state : RecordState)
  | settledCount (n : Nat)
  | approved (state : RecordState) (hold : Nat) (allowed : ProductSet)
  | declinedProduct
  | recordState (s : Option RecordState)
  | recordBound (s : RecordState) (bound : List Point)
  | acquirer (up : Bool) (expired : Nat)
  | sale (r : SaleReport)
  | authPartTwo (r : AuthPartTwo)
  | freeSlot
  | saleCleared (serial : Nat) (length : Nat)
  | queueLength (n : Nat)
  | profile (index : Nat) (p : Profile) (valid : Nat)
  | profileStored (index : Nat) (p : Profile)
  | profileRefused (index : Byte) (field : Nat)
  | profileCount (new old : Nat)
  | hotAdded (count : Nat) (added : Bool) (serial : Nat)
  | hotCount (count : Nat)
  | hotCleared (before after : Nat)
  | hotMember (count : Nat) (member : Bool)
  | history (r : HistoryReport)
  | historyMissing (size : Nat) (business : Date)
  | liveCount (n : Nat)
  | dayClosed (business : Date) (entries : Nat)
  | clock (before after : Time)
  | point (r : PointReport)
  | pointState (s : PointState)
  | pointStage (s : PointState) (v : ValveStage)
  | stats (r : StatsReport)
  | lane (lane : Lane) (c : LaneConfig)
  | pointConfig (point : Point) (c : PointConfig) (cal : Calibration)
  | field (n : Nat)
  | product (p : Product) (e : ProductEntry)
  | site (c : SiteConfig)
  | pump (s : PumpState)
  | estop (latch input : Bool)
  | alarmMask (kind : AlarmKind) (subject : Nat) (mask : Bool) (edge : EdgeSelect)
  | flagsCleared (n : Nat)
  | counters (r : CountersReport)
  | run (r : Option RunReport)
  | busySerial (serial : Nat)
  | correction (c : Int) (run : Option RunReport)
  | calibrated (c : Int) (cal : Calibration) (counter : Nat) (run : Option RunReport)
  | calLog (counter held : Nat) (entries : List CalEntry)
  | totals (first : Nat) (entries : List TotalsEntry)
  deriving DecidableEq, Repr

/-- A reply (R189): reply kind, status, summary byte, data, and the reply frame's bytes where the manual gives
every field of the data a size and a code (DESIGN CHOICE, log 14). -/
structure Reply where
  kind : Byte
  status : Status
  summary : Byte
  data : ReplyData
  frame : Option (List Byte)
  deriving DecidableEq, Repr

/-! ### Site link -/

/-- The receiver (R187); FRAME holds the bytes taken after the start byte, in order. -/
inductive Receiver where
  | hunt
  | frame (bytes : List Byte)
  | reply
  deriving DecidableEq, Repr

/-- The site link (R187 to R191): `gap` counts the ticks since the last byte of a frame; `pinAddress` and `pinRate`
are the strap pins, `station` and `rate` the straps as read at the last restart. -/
structure Link where
  receiver : Receiver
  gap : Nat
  station : BitVec 5
  rate : Baud
  pinAddress : BitVec 5
  pinRate : Baud
  reply : Option Reply
  notices : List Notice
  overflow : Bool
  lastTaken : Option Notice
  acquirerUp : Bool
  deriving DecidableEq, Repr

/-- The real-time clock with the ticks gone by in its current second (DESIGN CHOICE, log 12), and the business date
(R39). -/
structure Clock where
  rtc : Time
  phase : Nat
  business : Date
  deriving DecidableEq, Repr

/-- The whole state of the DN-618, and the queue of commands that wait. -/
structure State where
  clock : Clock
  site : SiteConfig
  products : ProductTable
  lanes : Vector LaneConfig 6
  screening : Screening
  auth : AuthTable
  points : Vector PointUnit 18
  pumps : Pumps
  sup : Supervisor
  cal : CalStore
  link : Link
  pending : List Instr
  deriving DecidableEq, Repr

/-! ### Reasons to stop -/

/-- No command of this block stops the machine with a fault: every rule of the manual gives an effect or a reply. -/
inductive Fault where
  deriving DecidableEq, Repr

/-- The refusals of the model. -/
inductive Refusal where
  /-- Raised by `exec` alone, for a command that has no meaning yet; safe. No command of this model is left so. -/
  | notModelled (mnemonic : String)
  deriving DecidableEq, Repr

/-! ### Reset -/

/-- The blank profile (R4). -/
def blankProfile : Profile where
  rangeLow := 0
  rangeHigh := 0
  cls := .fleet
  active := false
  tier := 0
  allLanes := false
  products := ⟨true, false, false⟩
  prompts := ⟨false, false, false, false⟩
  predicate := 0
  window := 1
  onlineMode := .alwaysOnline
  onlineTimeout := 25
  floorLimit := 0
  preAuth := 1
  defCap := 0
  rfrCap := 0
  maxAuths := 0
  dailyCap := 0

/-- An UNOPENED line: volume and amount 0 and no price (R85); the allowance, the reservation and L that it holds and
reports are 0 (DESIGN CHOICE, log 49). -/
def blankLine : Line where
  state := .unopened
  price := none
  allowance := 0
  reservation := 0
  limit := 0
  volume := 0
  amount := 0
  members := []
  overrun := 0

/-- A point's controller as a restart leaves it, nozzle hung (R111; log 10 for the fields no rule gives). -/
def resetPointRecord : PointRecord where
  state := .idle
  stage := .closed
  nozzle := .hung
  binding := none
  suspendCause := none
  finishReason := none
  softReason := none
  stopPending := none
  startRef := 0
  stopRef := 0
  timer := none
  faultLatch := false
  delivery := none
  proving := none

/-- A metering unit as a restart loads it from the pair it reads (R142). -/
def resetMeter (pair : Pair) : Meter where
  pair := pair
  progress := if pair = ⟨false, false⟩ then .at 0 else .abandoned
  forwardRun := 0
  marks := []
  noiseMet := false
  runA := 0
  runB := 0
  loss := .normal
  clearRun := 0
  reverseFound := false
  unauthorised := 0

/-- A flow monitor as a restart loads it (R143; log 10 for the window size and limit). -/
def resetMonitor : Monitor where
  active := false
  size := 8
  count := 0
  ticks := 0
  noFlowLimit := 300000
  frozen := false
  reference := none
  settle := 0
  latest := 0
  peak := 0
  minimum := Config.noRate

/-- A point unit as delivered, right after a reset with its nozzle hung and its pair at 00. -/
def resetPoint : PointUnit where
  ctl := resetPointRecord
  meter := resetMeter ⟨false, false⟩
  monitor := resetMonitor
  config := { noise := .strict, reverseAllowance := 20, window := 1, noFlowTime := 30, surgeCode := 3, surgeHold := true }
  cal := { p := 100, c := 0 }
  totaliser := 0
  inputPair := ⟨false, false⟩

/-- A pump as a restart leaves it, READY as read (R120). -/
def resetPump (ready : Bool) : PumpRecord where
  state := .stopped
  ready := ready
  demand := []
  timer := none
  cause := none

/-- An alarm cell as delivered (R172). -/
def resetCell : AlarmCell where
  latched := false
  mask := true
  edge := .rise
  notified := false

def zeroCounters : Counters := ⟨0, 0, 0, 0, 0, 0⟩

def resetPumpSettings : PumpSettings where
  readyCheck := false
  spinUp := 20
  readyWait := 10
  runOn := 10

/-- The date as delivered (R39, R192). -/
def deliveredDate : Date := ⟨2000, 1, 1⟩

/-- The DN-618 as delivered, right after its first cold start, every input deasserted (DESIGN CHOICE, logs 9 and 10). -/
def State.reset : State where
  clock := { rtc := ⟨deliveredDate, 0⟩, phase := 0, business := deliveredDate }
  site :=
    { armingTime := 180, idleCloseTime := 90, deliveryMax := 1500000, softStopTime := 3, drainTime := 3,
      suspensionLimit := 120, pumpA := resetPumpSettings, pumpB := resetPumpSettings, pumpC := resetPumpSettings,
      reportMode := .manual, reportInterval := 900 }
  products :=
    { dsl := ⟨99999, 300, 2000, 150, 200, 1000⟩, rfr := ⟨99999, 300, 1000, 100, 200, 1000⟩,
      defl := ⟨99999, 100, 300, 40, 50, 200⟩ }
  lanes := Vector.replicate 6 { enabled := false, tier := 0, sFitted := true, sProduct := .dsl, dFitted := true }
  screening := { profiles := Vector.replicate 64 blankProfile, valid := 0, hotList := [], history := [] }
  auth := { slots := Vector.replicate 24 none, serial := 0, sales := [] }
  points := Vector.replicate 18 resetPoint
  pumps := { a := resetPump false, b := resetPump false, c := resetPump false }
  sup :=
    { estopInput := false, estopLatch := false, noticeBlock := false,
      pointAlarms := Vector.replicate 18
        ⟨resetCell, resetCell, resetCell, resetCell, resetCell, resetCell, resetCell, resetCell⟩,
      siteAlarms := ⟨resetCell, resetCell, resetCell, resetCell, resetCell⟩,
      counters := Vector.replicate 18 zeroCounters, snapshots := Vector.replicate 18 zeroCounters,
      snapshotTime := none, reportTimer := none }
  cal := { enabled := false, counter := 0, log := [] }
  link :=
    { receiver := .hunt, gap := 0, station := 1, rate := .b38400, pinAddress := 1, pinRate := .b38400, reply := none,
      notices := [⟨⟨deliveredDate, 0⟩, .restarted .cold 0 0⟩], overflow := false, lastTaken := none,
      acquirerUp := true }
  pending := []

end Sys2Proof.Machine
end

