-- ==== Sys2Proof/Machine/Arith.lean ====
section
/-! DEFINITION. Machine/Arith.lean: the money, volume, rate and correction arithmetic (R70, R71, R137, R146, R149,
R185), formed exactly and narrowed at the end. -/

namespace Sys2Proof.Machine

open Sys2Proof

/-- V × U / 10,000 rounded to the nearest cent, half up, before its cap (R70). -/
def rawAmount (volume price : Nat) : Nat := (volume * price + 5000) / 10000

/-- amount(V, U) (R70). -/
def amountOf (volume price : Nat) : Nat := min (rawAmount volume price) Config.maxReported

/-- vol_for_money(R, U) (R71). -/
def volForMoney (money : Int) (price : Nat) : Nat :=
  if money < 0 then 0 else (money.toNat * 10000 + 4999) / price

/-- Pulses that make a million litres under a calibration record, P × (1,000,000 + C) (R136). -/
def meterFactor (cal : Calibration) : Nat := cal.p * (1000000 + cal.c).toNat

/-- The quotient of R137, before its cap. -/
def rawVolume (cal : Calibration) (net : Int) : Nat := net.toNat * 1000000000 / meterFactor cal

/-- V of a net count under a calibration record (R137, R138). -/
def volumeOf (cal : Calibration) (net : Int) : Nat := min (rawVolume cal net) Config.maxReported

/-- A V that saturates (R138). -/
def volumeSaturates (cal : Calibration) (net : Int) : Bool := Config.maxReported < rawVolume cal net

/-- The rate of a window of `size` pulses with period `period`, in dL/min (R146 step 2). -/
def rateOf (cal : Calibration) (size period : Nat) : Nat :=
  min (size * 6000000000000 / (meterFactor cal * period)) Config.maxRate

/-- The surge tolerance, in ticks (R149). -/
def toleranceOf (reference code : Nat) : Nat := reference * (code + 1) / 16

/-- C' of a proving run (R185): round-half-up(N_meas × 10⁹ / (P × V_p)) − 1,000,000. -/
def correctionOf (measured p prover : Nat) : Int :=
  ((2 * measured * 1000000000 + p * prover) / (2 * p * prover) : Nat) - 1000000

/-- A value replaced by the nearer bound of its range (00, "Value classes"). -/
def clamp (low high v : Nat) : Nat := max low (min high v)

/-- A net count moved by one pulse and held within its bounds (R132 step 1). -/
def movePulse (forward : Bool) (net : Int) : Int :=
  if forward then min (net + 1) Config.maxPulses else max (net - 1) (-Config.maxPulses)

/-- A counter raised by 1 and held at 65,535. -/
def bump (n : Nat) : Nat := min (n + 1) Config.maxCounter

/-- Whole seconds left of a timer with `left` ticks to run, rounded up (DESIGN CHOICE, log 11). -/
def wholeSeconds (left : Nat) : Nat := (left + (Config.ticksPerSecond - 1)) / Config.ticksPerSecond

/-- Ticks of a number of whole seconds. -/
def secondTicks (n : Nat) : Nat := n * Config.ticksPerSecond

end Sys2Proof.Machine
end

