-- ==== Sys2Proof/Machine/Calendar.lean ====
section
/-! DEFINITION. Machine/Calendar.lean: calendar dates, the order of dates and times, and the running of the RTC
(R38, R192). -/

namespace Sys2Proof.Machine

open Sys2Proof

def isLeap (year : Nat) : Bool := year % 4 == 0 && (year % 100 != 0 || year % 400 == 0)

/-- The days of a month; 0 for a month outside 1 to 12. -/
def daysInMonth (year month : Nat) : Nat :=
  match month with
  | 1 | 3 | 5 | 7 | 8 | 10 | 12 => 31
  | 4 | 6 | 9 | 11 => 30
  | 2 => if isLeap year then 29 else 28
  | _ => 0

/-- A calendar date of the years 2000 to 2099 (R38, R192; DEDUCED, log 21). -/
def Date.valid (d : Date) : Bool :=
  2000 ≤ d.year && d.year ≤ 2099 && 1 ≤ d.day && d.day ≤ daysInMonth d.year d.month

/-- The date after a date; the year after 2099 is 2100 (DEDUCED, log 13). -/
def Date.next (d : Date) : Date :=
  if d.day < daysInMonth d.year d.month then ⟨d.year, d.month, d.day + 1⟩
  else if d.month < 12 then ⟨d.year, d.month + 1, 1⟩
  else ⟨d.year + 1, 1, 1⟩

/-- `d` is earlier than `e`. -/
def Date.before (d e : Date) : Bool :=
  d.year < e.year || (d.year == e.year && (d.month < e.month || (d.month == e.month && d.day < e.day)))

/-- `t` is earlier than `u`. -/
def Time.before (t u : Time) : Bool :=
  t.date.before u.date || (t.date == u.date && t.second < u.second)

/-- The date `n` days after a date. -/
def Date.plusDays : Nat → Date → Date
  | 0, d => d
  | n + 1, d => Date.plusDays n d.next

/-- The RTC one second on: it rolls to the next date at the end of second 86,399 (R192). -/
def Time.nextSecond (t : Time) : Time :=
  if t.second < 86399 then ⟨t.date, t.second + 1⟩ else ⟨t.date.next, 0⟩

/-- The RTC `n` seconds on (R192: it runs on its battery without supply). -/
def Time.plusSeconds (n : Nat) (t : Time) : Time :=
  ⟨t.date.plusDays ((t.second + n) / 86400), (t.second + n) % 86400⟩

/-- A card expiry is past when its month is earlier than the month of the business date (R47 step 5). -/
def Expiry.past (e : Expiry) (business : Date) : Bool :=
  2000 + e.year < business.year || (2000 + e.year == business.year && e.month < business.month)

end Sys2Proof.Machine
end

