-- ==== Sys2Proof/Machine/Operands.lean ====
section
/-! DEFINITION. Machine/Operands.lean: what the codes and packed digits of a request's fields name (R194). Each reader
answers none for a code that names nothing; the owning rule says with which status that is refused. -/

namespace Sys2Proof.Machine

open Sys2Proof

/-! ### Single codes -/

/-- A yes-or-no, on-or-off, enabled-or-disabled or presence byte (R194). -/
def readYesNo (b : Byte) : Option Bool :=
  match b.toNat with
  | 0 => some false
  | 1 => some true
  | _ => none

def readProduct (b : Byte) : Option Product :=
  match b.toNat with
  | 1 => some .dsl
  | 2 => some .rfr
  | 3 => some .defl
  | _ => none

/-- The product of an S point: DSL or RFR (R108; DEDUCED, log 22). -/
def readSProduct (b : Byte) : Option Product :=
  match b.toNat with
  | 1 => some .dsl
  | 2 => some .rfr
  | _ => none

/-- A product set byte: bits 0 to 2 (R194). -/
def readProductSet (b : Byte) : Option ProductSet :=
  if b.toNat < 8 then some ⟨b.getLsbD 0, b.getLsbD 1, b.getLsbD 2⟩ else none

/-- A byte that is a set of prompt kinds: bits 0 to 3 (R194). -/
def readPromptSet (b : Byte) : Option PromptSet :=
  if b.toNat < 16 then some ⟨b.getLsbD 0, b.getLsbD 1, b.getLsbD 2, b.getLsbD 3⟩ else none

def readPromptKind (b : Byte) : Option PromptKind :=
  match b.toNat with
  | 1 => some .odometer
  | 2 => some .unit
  | 3 => some .driver
  | 4 => some .reeferHours
  | _ => none

def readProfileClass (b : Byte) : Option ProfileClass :=
  match b.toNat with
  | 1 => some .fleet
  | 2 => some .bank
  | 3 => some .siteAccount
  | _ => none

def readOnlineMode (b : Byte) : Option OnlineMode :=
  match b.toNat with
  | 1 => some .alwaysOnline
  | 2 => some .onlinePreferred
  | 3 => some .offlineOnly
  | _ => none

/-- An ACQUIRER STATE code: UP or DOWN. -/
def readAcquirer (b : Byte) : Option Bool :=
  match b.toNat with
  | 1 => some true
  | 2 => some false
  | _ => none

/-- An ONLINE RESULT code: APPROVE or DECLINE. -/
def readApprove (b : Byte) : Option Bool :=
  match b.toNat with
  | 1 => some true
  | 2 => some false
  | _ => none

/-- A STOP POINT mode; true for IMMEDIATE. -/
def readStopMode (b : Byte) : Option Bool :=
  match b.toNat with
  | 1 => some true
  | 2 => some false
  | _ => none

def readNoise (b : Byte) : Option NoiseCriterion :=
  match b.toNat with
  | 1 => some .strict
  | 2 => some .lenient
  | _ => none

def readEdge (b : Byte) : Option EdgeSelect :=
  match b.toNat with
  | 1 => some .rise
  | 2 => some .riseFall
  | _ => none

def readReportMode (b : Byte) : Option ReportMode :=
  match b.toNat with
  | 1 => some .manual
  | 2 => some .auto
  | _ => none

def readPump (b : Byte) : Option Pump :=
  match b.toNat with
  | 1 => some .a
  | 2 => some .b
  | 3 => some .c
  | _ => none

/-- An alarm kind code, 1 to 13 in the order of R194's list. -/
def readAlarmKind (b : Byte) : Option AlarmKind :=
  match b.toNat with
  | 1 => some (.point .channelLoss)
  | 2 => some (.point .meterNoise)
  | 3 => some (.point .reverseFlow)
  | 4 => some (.point .surge)
  | 5 => some (.point .flowDrop)
  | 6 => some (.point .unauthFlow)
  | 7 => some (.point .overrun)
  | 8 => some (.point .counterFull)
  | 9 => some (.site .estop)
  | 10 => some (.site .calEnabled)
  | 11 => some (.site .pumpFailA)
  | 12 => some (.site .pumpFailB)
  | 13 => some (.site .pumpFailC)
  | _ => none

/-- A point number, 1 to 18. -/
def readPoint (b : Byte) : Option Point :=
  if h : 1 ≤ b.toNat ∧ b.toNat ≤ 18 then some ⟨b.toNat - 1, by omega⟩ else none

/-- A lane number, 1 to 6. -/
def readLane (b : Byte) : Option Lane :=
  if h : 1 ≤ b.toNat ∧ b.toNat ≤ 6 then some ⟨b.toNat - 1, by omega⟩ else none

/-- A slot number, 0 to 23. -/
def readSlot (w : W16) : Option Slot :=
  if h : w.toNat < 24 then some ⟨w.toNat, h⟩ else none

/-- A date (R38, R192). -/
def readDate (f : DateF) : Date := ⟨f.year.toNat, f.month.toNat, f.day.toNat⟩

/-- A signed 4-byte correction C (R194). -/
def readCorrection (w : W32) : Int := w.toInt

/-! ### Packed digits -/

/-- Nibble `i` of a packed BCD field of `places` nibbles, the first digit being nibble 0 (R194). -/
def nibbleAt (places value i : Nat) : Nat := value / 16 ^ (places - 1 - i) % 16

/-- The digits within the count are 0 to 9 and the pad nibbles after it are 0xF (R194). -/
def bcdWellFormed (places value count : Nat) : Bool :=
  (List.range places).all fun i =>
    if i < count then nibbleAt places value i ≤ 9 else nibbleAt places value i == 15

/-- The number the first `count` digits write. -/
def bcdValue (places value count : Nat) : Nat :=
  (List.range count).foldl (fun n i => n * 10 + nibbleAt places value i) 0

/-- A card number of a frame; none where R194 refuses it MALFORMED. -/
def readCard (w : CardWire) : Option CardNumber :=
  if w.count.toNat ≤ 20 && bcdWellFormed 20 w.bcd.toNat w.count.toNat then
    some ⟨w.count.toNat, bcdValue 20 w.bcd.toNat w.count.toNat⟩
  else none

/-- A card number of 12 to 19 digits (R3, R17). -/
def CardNumber.inRange (c : CardNumber) : Bool := 12 ≤ c.digits && c.digits ≤ 19

/-- A card expiry YYMM; none where a position is not a digit (R46). -/
def readExpiry (w : W16) : Option Expiry :=
  if bcdWellFormed 4 w.toNat 4 then some ⟨bcdValue 4 w.toNat 4 / 100, bcdValue 4 w.toNat 4 % 100⟩ else none

/-! ### Card numbers -/

/-- The key of R3 and R16: by digit count, then by numeric value. -/
def CardNumber.before (c d : CardNumber) : Bool :=
  c.digits < d.digits || (c.digits == d.digits && c.value < d.value)

/-- prefix10: the first 10 digits, read as a number (R3). -/
def CardNumber.prefix10 (c : CardNumber) : Nat := c.value / 10 ^ (c.digits - 10)

/-- Digit `i` from the right, the rightmost being digit 0. -/
def CardNumber.digitFromRight (c : CardNumber) (i : Nat) : Nat := c.value / 10 ^ i % 10

/-- One term of the mod-10 sum: every second digit from the right is doubled, less 9 above 9 (R47 step 4). -/
def checkTerm (i d : Nat) : Nat :=
  if i % 2 == 0 then d else if 9 < 2 * d then 2 * d - 9 else 2 * d

/-- The mod-10 check of R47 step 4. -/
def CardNumber.checkDigitOk (c : CardNumber) : Bool :=
  ((List.range c.digits).foldl (fun n i => n + checkTerm i (c.digitFromRight i)) 0) % 10 == 0

/-! ### Prompts -/

/-- What the check of a prompt list finds (R25). -/
inductive PromptCheck where
  | malformed
  | outOfRange (k : PromptKind)
  | accepted (l : List Prompt)
  deriving DecidableEq, Repr

/-- A value that is digits: UNIT or DRIVER (02 §2.1). -/
def PromptKind.isDigits (k : PromptKind) : Bool :=
  match k with
  | .unit | .driver => true
  | .odometer | .reeferHours => false

/-- The structure of one prompt (R25 check 1; the pad nibbles, DEDUCED, log 18). -/
def promptMalformed (w : PromptWire) : Bool :=
  match readPromptKind w.kind with
  | none => true
  | some k => k.isDigits && !bcdWellFormed 8 w.value.toNat w.count.toNat

/-- The range of one prompt (R25 check 2). -/
def promptOutOfRange (w : PromptWire) (k : PromptKind) : Bool :=
  match k with
  | .odometer => 9999999 < w.value.toNat
  | .reeferHours => 99999 < w.value.toNat
  | .unit | .driver => w.count.toNat < 1 || 8 < w.count.toNat

/-- A prompt as stored; the digit count of a number kind is 0 (DEDUCED, log 17). -/
def storePrompt (w : PromptWire) (k : PromptKind) : Prompt :=
  ⟨k, if k.isDigits then w.count else 0, w.value⟩

/-- A kind appears twice in the list. -/
def hasRepeat : List Byte → Bool
  | [] => false
  | k :: l => l.contains k || hasRepeat l

/-- The ranges of a list whose structure is sound (R25 check 2). Of several kinds out of range, the first in the order of
the list is named (DESIGN CHOICE, log 48). -/
def promptRanges : List PromptWire → PromptCheck
  | [] => .accepted []
  | w :: l =>
    match readPromptKind w.kind with
    | none => .malformed
    | some k =>
      if promptOutOfRange w k then .outOfRange k
      else
        match promptRanges l with
        | .accepted ps => .accepted (storePrompt w k :: ps)
        | other => other

/-- The check of a prompt list (R25). -/
def checkPrompts (l : List PromptWire) : PromptCheck :=
  if 4 < l.length || l.any promptMalformed || hasRepeat (l.map PromptWire.kind) then .malformed
  else promptRanges l

/-! ### Positions in the island (R1) -/

/-- A point's place in its lane. -/
inductive Place where
  | m | s | d
  deriving DecidableEq, Repr

/-- The lane of a point (R1). -/
def laneOf (p : Point) : Lane := ⟨p.val / 3, by omega⟩

/-- The place of a point in its lane (R1). -/
def placeOf (p : Point) : Place :=
  match p.val % 3 with
  | 0 => .m
  | 1 => .s
  | _ => .d

/-- The M, S and D points of a lane: points 3n−2, 3n−1, 3n of lane n (R1). -/
def pointM (l : Lane) : Point := ⟨3 * l.val, by omega⟩
def pointS (l : Lane) : Point := ⟨3 * l.val + 1, by omega⟩
def pointD (l : Lane) : Point := ⟨3 * l.val + 2, by omega⟩

/-- The points of a lane in the order M, S, D. -/
def pointsOf (l : Lane) : List Point := [pointM l, pointS l, pointD l]

/-- The number of a point, 1 to 18. -/
def pointNumber (p : Point) : Nat := p.val + 1

/-- The number of a lane, 1 to 6. -/
def laneNumber (l : Lane) : Nat := l.val + 1

def allPoints : List Point := List.finRange 18
def allLanes : List Lane := List.finRange 6
def allSlots : List Slot := List.finRange 24

/-- The pump that draws a product (R88, R112). -/
def pumpOf (r : Product) : Pump :=
  match r with
  | .dsl => .a
  | .rfr => .b
  | .defl => .c

/-! ### Sets of products and prompts -/

def ProductSet.has (s : ProductSet) (r : Product) : Bool :=
  match r with
  | .dsl => s.dsl
  | .rfr => s.rfr
  | .defl => s.defl

def ProductSet.inter (s t : ProductSet) : ProductSet := ⟨s.dsl && t.dsl, s.rfr && t.rfr, s.defl && t.defl⟩

def ProductSet.isEmpty (s : ProductSet) : Bool := !(s.dsl || s.rfr || s.defl)

/-- The products a restriction code allows (R47 step 8). -/
def restrictionSet (code : Nat) : ProductSet :=
  match code with
  | 0 => ⟨true, true, true⟩
  | 1 => ⟨true, true, false⟩
  | 2 => ⟨true, false, false⟩
  | _ => ⟨false, false, true⟩

def PromptSet.has (s : PromptSet) (k : PromptKind) : Bool :=
  match k with
  | .odometer => s.odometer
  | .unit => s.unit
  | .driver => s.driver
  | .reeferHours => s.reeferHours

def PromptSet.isEmpty (s : PromptSet) : Bool := !(s.odometer || s.unit || s.driver || s.reeferHours)

/-- The prompt of a kind in a list. -/
def findPrompt (l : List Prompt) (k : PromptKind) : Option Prompt := l.find? fun p => p.kind == k

end Sys2Proof.Machine
end

