-- ==== Sys2Proof/Machine/Flags.lean ====
section
/-! DEFINITION. Machine/Flags.lean: the odometer flags and predicates (R28, R29), the noise criterion (R126), the alarm
flags (R171, R174), the summary byte (R189) and the flag words of the layouts (R194). -/

namespace Sys2Proof.Machine

open Sys2Proof

/-! ### Odometer -/

/-- The flags of the signed difference D (R28). -/
structure OdometerFlags where
  z : Bool
  n : Bool
  v : Bool
  deriving DecidableEq, Repr

/-- D, the entered value less the last odometer (R28). -/
def odometerDiff (entered last : Nat) : Int := (entered : Int) - (last : Int)

def odometerFlags (d : Int) (window : Nat) : OdometerFlags :=
  ⟨d == 0, decide (d < 0), decide (window < d.natAbs)⟩

/-- The predicate of a code over the flags (R29). -/
def predicatePasses (code : Nat) (f : OdometerFlags) : Bool :=
  match code with
  | 0 => true
  | 1 => !f.n
  | 2 => !f.n && !f.z
  | 3 => !f.v
  | 4 => !f.n && !f.v
  | 5 => !f.n && !f.z && !f.v
  | _ => !f.z

/-- Whether a reading passes: always when the entry holds no last odometer (R29). -/
def readingPasses (code window entered : Nat) (last : Option Nat) : Bool :=
  match last with
  | none => true
  | some l => predicatePasses code (odometerFlags (odometerDiff entered l) window)

/-! ### Noise -/

/-- Phase errors among the newest `n` marks of a noise window. -/
def phaseErrors (n : Nat) (marks : List Bool) : Nat := (marks.take n).countP id

/-- The noise criterion over a window of marks (R126). -/
def noiseCriterionMet (c : NoiseCriterion) (marks : List Bool) : Bool :=
  match c with
  | .strict => decide (8 < phaseErrors 64 marks)
  | .lenient => decide (32 < phaseErrors 256 marks)

/-! ### Alarm cells -/

def PointAlarms.get (a : PointAlarms) (k : PointAlarm) : AlarmCell :=
  match k with
  | .channelLoss => a.channelLoss
  | .meterNoise => a.meterNoise
  | .reverseFlow => a.reverseFlow
  | .surge => a.surge
  | .flowDrop => a.flowDrop
  | .unauthFlow => a.unauthFlow
  | .overrun => a.overrun
  | .counterFull => a.counterFull

def PointAlarms.set (a : PointAlarms) (k : PointAlarm) (c : AlarmCell) : PointAlarms :=
  match k with
  | .channelLoss => { a with channelLoss := c }
  | .meterNoise => { a with meterNoise := c }
  | .reverseFlow => { a with reverseFlow := c }
  | .surge => { a with surge := c }
  | .flowDrop => { a with flowDrop := c }
  | .unauthFlow => { a with unauthFlow := c }
  | .overrun => { a with overrun := c }
  | .counterFull => { a with counterFull := c }

def SiteAlarms.get (a : SiteAlarms) (k : SiteAlarm) : AlarmCell :=
  match k with
  | .estop => a.estop
  | .calEnabled => a.calEnabled
  | .pumpFailA => a.pumpFailA
  | .pumpFailB => a.pumpFailB
  | .pumpFailC => a.pumpFailC

def SiteAlarms.set (a : SiteAlarms) (k : SiteAlarm) (c : AlarmCell) : SiteAlarms :=
  match k with
  | .estop => { a with estop := c }
  | .calEnabled => { a with calEnabled := c }
  | .pumpFailA => { a with pumpFailA := c }
  | .pumpFailB => { a with pumpFailB := c }
  | .pumpFailC => { a with pumpFailC := c }

def allPointAlarms : List PointAlarm :=
  [.channelLoss, .meterNoise, .reverseFlow, .surge, .flowDrop, .unauthFlow, .overrun, .counterFull]

def allSiteAlarms : List SiteAlarm := [.estop, .calEnabled, .pumpFailA, .pumpFailB, .pumpFailC]

/-- The level kinds (10 §10.2). -/
def PointAlarm.isLevel (k : PointAlarm) : Bool := k == .channelLoss
def SiteAlarm.isLevel (k : SiteAlarm) : Bool := k == .estop || k == .calEnabled
def AlarmKind.isLevel (k : AlarmKind) : Bool :=
  match k with
  | .point k => k.isLevel
  | .site k => k.isLevel

/-- An edge qualifies: a rise under both selects, a fall under RISE_FALL alone (R171). -/
def edgeQualifies (select : EdgeSelect) (rise : Bool) : Bool := rise || select == .riseFall

/-- Any of a point's 8 flags is latched. -/
def PointAlarms.anyLatched (a : PointAlarms) : Bool := allPointAlarms.any fun k => (a.get k).latched

def SiteAlarms.anyLatched (a : SiteAlarms) : Bool := allSiteAlarms.any fun k => (a.get k).latched

/-- Any of the 149 flags is latched (R171). -/
def anyAlarmLatched (s : Supervisor) : Bool :=
  s.siteAlarms.anyLatched || allPoints.any fun p => (s.pointAlarms[p.val]).anyLatched

/-- Bit n of the lane bitmap: any flag of the lane's three points is latched (R174). -/
def laneFlagged (s : Supervisor) (l : Lane) : Bool :=
  (pointsOf l).any fun p => (s.pointAlarms[p.val]).anyLatched

/-! ### Bytes of flags -/

/-- A byte with bit k set where the k-th item of the list is true. -/
def bitsByte (l : List Bool) : Byte :=
  BitVec.ofNat 8 (l.foldr (fun b n => 2 * n + (if b then 1 else 0)) 0)

/-- The summary byte (R189). -/
def summaryByte (s : State) : Byte :=
  bitsByte
    [!s.link.notices.isEmpty, !s.auth.sales.isEmpty, anyAlarmLatched s.sup, s.link.overflow, s.sup.estopLatch]

def ProductSet.toByte (s : ProductSet) : Byte := bitsByte [s.dsl, s.rfr, s.defl]

def PromptSet.toByte (s : PromptSet) : Byte := bitsByte [s.odometer, s.unit, s.driver, s.reeferHours]

/-- The low byte of the record flags (R194): bits 0 to 6. -/
def RecordFlags.toByte (f : RecordFlags) : Byte :=
  bitsByte [f.standin, f.confirmed, f.lateDecline, f.closing, f.sat, f.overHold, f.degraded]

end Sys2Proof.Machine
end

