-- ==== Sys2Proof/Machine/Ops.lean ====
section
/-! DEFINITION. Machine/Ops.lean: the named reads and updates of the state, the notice queue, the presenting of alarms
and fault counts, the hot-list search, and the reply to a request: what every block's rules are written over. -/

namespace Sys2Proof.Machine

open Sys2Proof

/-- What a command answers. -/
abbrev Out := Host.Outcome State Fault Refusal

/-! ### Reading and updating -/

def State.now (s : State) : Time := s.clock.rtc

def State.point (s : State) (p : Point) : PointUnit := s.points[p.val]

def modPoint (p : Point) (f : PointUnit → PointUnit) (s : State) : State :=
  { s with points := s.points.set p.val (f (s.point p)) }

def modCtl (p : Point) (f : PointRecord → PointRecord) (s : State) : State :=
  modPoint p (fun u => { u with ctl := f u.ctl }) s

def modMeter (p : Point) (f : Meter → Meter) (s : State) : State :=
  modPoint p (fun u => { u with meter := f u.meter }) s

def modMonitor (p : Point) (f : Monitor → Monitor) (s : State) : State :=
  modPoint p (fun u => { u with monitor := f u.monitor }) s

def modDelivery (p : Point) (f : Delivery → Delivery) (s : State) : State :=
  modCtl p (fun c => { c with delivery := c.delivery.map f }) s

def modRun (p : Point) (f : ProvingRun → ProvingRun) (s : State) : State :=
  modCtl p (fun c => { c with proving := c.proving.map f }) s

def State.slot (s : State) (k : Slot) : Option AuthRecord := s.auth.slots[k.val]

def setSlot (k : Slot) (r : Option AuthRecord) (s : State) : State :=
  { s with auth := { s.auth with slots := s.auth.slots.set k.val r } }

def modSlot (k : Slot) (f : AuthRecord → AuthRecord) (s : State) : State :=
  setSlot k ((s.slot k).map f) s

def State.lane (s : State) (l : Lane) : LaneConfig := s.lanes[l.val]

def State.pump (s : State) (k : Pump) : PumpRecord :=
  match k with
  | .a => s.pumps.a
  | .b => s.pumps.b
  | .c => s.pumps.c

def Pumps.set (ps : Pumps) (k : Pump) (r : PumpRecord) : Pumps :=
  match k with
  | .a => { ps with a := r }
  | .b => { ps with b := r }
  | .c => { ps with c := r }

def modPump (k : Pump) (f : PumpRecord → PumpRecord) (s : State) : State :=
  { s with pumps := s.pumps.set k (f (s.pump k)) }

def allPumps : List Pump := [.a, .b, .c]

/-- The RUN output of a pump in a state: on in STARTING, RUNNING and RUN_ON (R112). -/
def PumpState.runs (x : PumpState) : Bool :=
  match x with
  | .starting | .running | .runOn => true
  | .stopped | .failed => false

/-- The RUN output of a pump: it follows the state in the action that changes it (R112). -/
def State.runOutput (s : State) (k : Pump) : Bool := (s.pump k).state.runs

/-- The SLOW output of a point: energised in the stages SLOW and FAST (R87, R88). -/
def State.slowOutput (s : State) (p : Point) : Bool := (s.point p).ctl.stage != .closed

/-- The FAST output of a point: energised in the stage FAST (R87, R88). -/
def State.fastOutput (s : State) (p : Point) : Bool := (s.point p).ctl.stage == .fast

/-- The line driver: enabled in REPLY only, while the reply is sent (R187). -/
def State.lineDriver (s : State) : Bool := s.link.receiver == .reply && s.link.reply.isSome

def State.pumpSettings (s : State) (k : Pump) : PumpSettings :=
  match k with
  | .a => s.site.pumpA
  | .b => s.site.pumpB
  | .c => s.site.pumpC

def State.product (s : State) (r : Product) : ProductEntry :=
  match r with
  | .dsl => s.products.dsl
  | .rfr => s.products.rfr
  | .defl => s.products.defl

/-- The product of a point: DSL for M, the lane's configured product for S, DEF for D (R88). -/
def State.productOf (s : State) (p : Point) : Product :=
  match placeOf p with
  | .m => .dsl
  | .s => (s.lane (laneOf p)).sProduct
  | .d => .defl

/-- The pump of a point (R88). -/
def State.pumpOfPoint (s : State) (p : Point) : Pump := pumpOf (s.productOf p)

/-- Whether a point is fitted; M always is (R108). -/
def State.fitted (s : State) (p : Point) : Bool :=
  match placeOf p with
  | .m => true
  | .s => (s.lane (laneOf p)).sFitted
  | .d => (s.lane (laneOf p)).dFitted

def Lines.get (l : Lines) (r : Product) : Line :=
  match r with
  | .dsl => l.dsl
  | .rfr => l.rfr
  | .defl => l.defl

def Lines.set (l : Lines) (r : Product) (x : Line) : Lines :=
  match r with
  | .dsl => { l with dsl := x }
  | .rfr => { l with rfr := x }
  | .defl => { l with defl := x }

/-! ### Records -/

/-- A record that is not SETTLED is live (R44). -/
def AuthRecord.isLive (r : AuthRecord) : Bool := r.state != .settled

/-- The slot of a lane's live record (R44). -/
def State.liveSlot (s : State) (l : Lane) : Option Slot :=
  allSlots.find? fun k => (s.slot k).any fun r => r.isLive && r.lane == l

/-- The occupied slot that holds a serial; a serial of 0 names none (R43, R52). -/
def State.slotOfSerial (s : State) (n : Nat) : Option Slot :=
  if n = 0 then none else allSlots.find? fun k => (s.slot k).any fun r => r.serial == n

/-- The slot of the live record of a card (R44). -/
def State.slotOfCard (s : State) (c : CardNumber) : Option Slot :=
  allSlots.find? fun k => (s.slot k).any fun r => r.isLive && r.card == c

/-- The number of live records, and of SETTLED ones. -/
def State.liveCount (s : State) : Nat := allSlots.countP fun k => (s.slot k).any AuthRecord.isLive
def State.settledCount (s : State) : Nat := allSlots.countP fun k => (s.slot k).any fun r => !r.isLive

/-- The bound, unfinished-merge condition of a point: it holds a binding (R87). -/
def State.isBound (s : State) (p : Point) : Bool := (s.point p).ctl.binding.isSome

/-- The slot of the record a point is bound to. -/
def State.boundSlot (s : State) (p : Point) : Option Slot :=
  (s.point p).ctl.binding.bind fun b => s.slotOfSerial b.serial

/-! ### Notices (R190) -/

/-- A notice joins the tail, or is discarded with the overflow flag set when 64 are held. -/
def pushNotice (b : NoticeBody) (s : State) : State :=
  if s.link.notices.length < Config.noticeQueueSize then
    { s with link := { s.link with notices := s.link.notices ++ [⟨s.now, b⟩] } }
  else { s with link := { s.link with overflow := true } }

/-! ### Alarms (R171) -/

def modPointAlarms (p : Point) (f : PointAlarms → PointAlarms) (s : State) : State :=
  { s with sup := { s.sup with pointAlarms := s.sup.pointAlarms.set p.val (f (s.sup.pointAlarms[p.val])) } }

def modSiteAlarms (f : SiteAlarms → SiteAlarms) (s : State) : State :=
  { s with sup := { s.sup with siteAlarms := f s.sup.siteAlarms } }

/-- The cell after a qualifying edge: the flag is set, and the notified bit when a notice is due. -/
def latchCell (c : AlarmCell) : AlarmCell := { c with latched := true, notified := c.notified || c.mask }

/-- A notice is due for a qualifying edge: the mask is enabled and the notified bit clear. -/
def noticeDue (c : AlarmCell) : Bool := c.mask && !c.notified

/-- A per-point alarm is presented; `rise` is false for the fall of a level kind (R171). -/
def presentPoint (k : PointAlarm) (p : Point) (rise : Bool) (s : State) : State :=
  let c := (s.sup.pointAlarms[p.val]).get k
  if edgeQualifies c.edge rise then
    let s' := modPointAlarms p (fun a => a.set k (latchCell c)) s
    if noticeDue c then pushNotice (.pointAlarm k p rise) s' else s'
  else s

/-- A site alarm other than ESTOP is presented (R171). -/
def presentSite (k : SiteAlarm) (rise : Bool) (s : State) : State :=
  let c := s.sup.siteAlarms.get k
  if edgeQualifies c.edge rise then
    let s' := modSiteAlarms (fun a => a.set k (latchCell c)) s
    if noticeDue c then pushNotice (.siteAlarm k rise) s' else s'
  else s

/-- An edge of the ESTOP input at the alarm flag and the notices (R169); `records` is the count the notice carries. -/
def presentEstop (asserted : Bool) (records : Nat) (s : State) : State :=
  let c := s.sup.siteAlarms.estop
  if edgeQualifies c.edge asserted then
    let s' := modSiteAlarms (fun a => a.set .estop { c with latched := true }) s
    if c.mask && !s.sup.noticeBlock then
      let s'' := pushNotice (.estop asserted s.sup.estopLatch records) s'
      { s'' with sup := { s''.sup with noticeBlock := true } }
    else s'
  else s

/-! ### Fault counters (R175) -/

def Counters.get (c : Counters) (k : FaultCounter) : Nat :=
  match k with
  | .phase => c.phase
  | .chloss => c.chloss
  | .reverse => c.reverse
  | .surge => c.surge
  | .noflow => c.noflow
  | .unauth => c.unauth

def Counters.set (c : Counters) (k : FaultCounter) (n : Nat) : Counters :=
  match k with
  | .phase => { c with phase := n }
  | .chloss => { c with chloss := n }
  | .reverse => { c with reverse := n }
  | .surge => { c with surge := n }
  | .noflow => { c with noflow := n }
  | .unauth => { c with unauth := n }

def Counters.isZero (c : Counters) : Bool := c == zeroCounters

def State.counters (s : State) (p : Point) : Counters := s.sup.counters[p.val]

/-- One presentation to a fault counter: it stays at 65,535, and the count that brings it there presents COUNTER_FULL.
-/
def countFault (k : FaultCounter) (p : Point) (s : State) : State :=
  let n := (s.counters p).get k
  if n < Config.maxCounter then
    let s' := { s with sup := { s.sup with counters := s.sup.counters.set p.val ((s.counters p).set k (n + 1)) } }
    if n + 1 = Config.maxCounter then presentPoint .counterFull p true s' else s'
  else s

/-- A snapshot of all 108 counters (R176). -/
def takeSnapshot (s : State) : State :=
  { s with
    sup :=
      { s.sup with
        snapshots := s.sup.counters
        counters := Vector.replicate 18 zeroCounters
        snapshotTime := some s.now } }

/-! ### Hot-list search (R18) -/

/-- What a search finds: a member at a position, or the position at which the number would be inserted. -/
inductive SearchResult where
  | member (i : Nat)
  | absent (i : Nat)
  deriving DecidableEq, Repr

/-- Binary search of the part of the list that begins at `base`, with at most the given number of comparisons. -/
def searchPart : Nat → Nat → List CardNumber → CardNumber → SearchResult
  | 0, base, _, _ => .absent base
  | n + 1, base, part, c =>
    match part[part.length / 2]? with
    | none => .absent base
    | some e =>
      if e = c then .member (base + part.length / 2)
      else if c.before e then searchPart n base (part.take (part.length / 2)) c
      else searchPart n (base + part.length / 2 + 1) (part.drop (part.length / 2 + 1)) c

/-- The search of R18: it starts with the whole list and makes at most 11 comparisons. -/
def hotSearch (l : List CardNumber) (c : CardNumber) : SearchResult :=
  searchPart Config.hotSearchComparisons 0 l c

def hotMember (l : List CardNumber) (c : CardNumber) : Bool :=
  match hotSearch l c with
  | .member _ => true
  | .absent _ => false

end Sys2Proof.Machine
end

