-- ==== Sys2Proof/Machine/Layout.lean ====
section
/-! DEFINITION. Machine/Layout.lean: the bytes of replies and notices where R194 (and R65, R141, R191, R192) lay them out or
give the fields and their widths, the reply frame (R189), and the reply to a request. -/

namespace Sys2Proof.Machine

open Sys2Proof

/-! ### Codes (R194: numbered from 1 in the order listed, 0 for none) -/

def Status.code (s : Status) : Byte :=
  match s with
  | .ok => 0x00
  | .okClamped => 0x01
  | .malformed => 0x10
  | .unknownRequest => 0x11
  | .outOfRange => 0x12
  | .wrongState => 0x13
  | .laneBusy => 0x14
  | .tableFull => 0x15
  | .siteStopped => 0x16
  | .calLocked => 0x17
  | .unknownAuth => 0x18
  | .late => 0x19
  | .listFull => 0x1A
  | .inputActive => 0x1B
  | .notFound => 0x1C

def productCode (r : Product) : Byte :=
  match r with
  | .dsl => 1
  | .rfr => 2
  | .defl => 3

def PromptKind.code (k : PromptKind) : Byte :=
  match k with
  | .odometer => 1
  | .unit => 2
  | .driver => 3
  | .reeferHours => 4

def RecordState.code (s : RecordState) : Byte :=
  match s with
  | .awaitOnline => 1
  | .armed => 2
  | .delivering => 3
  | .idleOpen => 4
  | .settled => 5

def LineState.code (s : LineState) : Byte :=
  match s with
  | .unopened => 1
  | .opened => 2
  | .final => 3

def Decline.code (d : Decline) : Byte :=
  match d with
  | .badCard => 1
  | .expired => 2
  | .hotCard => 3
  | .noTable => 4
  | .unknownRange => 5
  | .profileInactive => 6
  | .laneNotPermitted => 7
  | .product => 8
  | .cardInUse => 9
  | .velocity => 10
  | .odometer => 11
  | .offline => 12

def RecordEnd.code (r : RecordEnd) : Byte :=
  match r with
  | .idleClose => 1
  | .allDelivered => 2
  | .cancel => 3
  | .lateDecline => 4
  | .estop => 5
  | .powerFail => 6
  | .reset => 7

def EndReason.code (r : EndReason) : Byte :=
  match r with
  | .limit => 1
  | .noFunds => 2
  | .hostStop => 3
  | .cancel => 4
  | .lateDecline => 5
  | .suspendTimeout => 6
  | .noFlow => 7
  | .reverse => 8
  | .meterNoise => 9
  | .pumpFail => 10
  | .estop => 11
  | .hangUp => 12
  | .alreadyDelivered => 13
  | .powerFail => 14
  | .reset => 15

def PointAlarm.code (k : PointAlarm) : Byte :=
  match k with
  | .channelLoss => 1
  | .meterNoise => 2
  | .reverseFlow => 3
  | .surge => 4
  | .flowDrop => 5
  | .unauthFlow => 6
  | .overrun => 7
  | .counterFull => 8

def SiteAlarm.code (k : SiteAlarm) : Byte :=
  match k with
  | .estop => 9
  | .calEnabled => 10
  | .pumpFailA => 11
  | .pumpFailB => 12
  | .pumpFailC => 13

def AlarmKind.code (k : AlarmKind) : Byte :=
  match k with
  | .point k => k.code
  | .site k => k.code

def NoiseCriterion.code (n : NoiseCriterion) : Byte :=
  match n with
  | .strict => 1
  | .lenient => 2

def EdgeSelect.code (e : EdgeSelect) : Byte :=
  match e with
  | .rise => 1
  | .riseFall => 2

def ReportMode.code (m : ReportMode) : Byte :=
  match m with
  | .manual => 1
  | .auto => 2

/-- The code of the ACQUIRER STATE flag: UP or DOWN. -/
def acquirerCode (up : Bool) : Byte := if up then 1 else 2

def ProfileClass.code (c : ProfileClass) : Byte :=
  match c with
  | .fleet => 1
  | .bank => 2
  | .siteAccount => 3

def OnlineMode.code (m : OnlineMode) : Byte :=
  match m with
  | .alwaysOnline => 1
  | .onlinePreferred => 2
  | .offlineOnly => 3

def LiveTimerKind.code (k : LiveTimerKind) : Byte :=
  match k with
  | .online => 1
  | .arming => 2
  | .idleClose => 3

def pumpCode (k : Pump) : Byte :=
  match k with
  | .a => 1
  | .b => 2
  | .c => 3

def yesNoByte (b : Bool) : Byte := if b then 1 else 0

/-- The code of an optional item, 0 for none. -/
def optCode {α : Type} (f : α → Byte) (o : Option α) : Byte :=
  match o with
  | none => 0
  | some x => f x

def pointByte (p : Point) : Byte := BitVec.ofNat 8 (pointNumber p)
def laneByte (l : Lane) : Byte := BitVec.ofNat 8 (laneNumber l)
def slotByte (k : Slot) : Byte := BitVec.ofNat 8 k.val
def countByte (n : Nat) : Byte := BitVec.ofNat 8 n

/-! ### Fields -/

/-- A time (8); an absent time is eight 0xFF bytes. -/
def timeBytes (t : Option Time) : List Byte :=
  match t with
  | some t => toBE 2 t.date.year ++ [countByte t.date.month, countByte t.date.day] ++ toBE 4 t.second
  | none => List.replicate 8 0xFF

/-- The packed digits of a number of `count` digits in `places` nibbles, padded with 0xF. -/
def packDigits (places count value : Nat) : Nat :=
  (List.range places).foldl
    (fun n i => n * 16 + (if i < count then value / 10 ^ (count - 1 - i) % 10 else 15)) 0

/-- A card number (11). -/
def cardNumberBytes (c : CardNumber) : List Byte := countByte c.digits :: toBE 10 (packDigits 20 c.digits c.value)

/-- A card expiry YYMM (2). -/
def expiryBytes (e : Expiry) : List Byte := toBE 2 (packDigits 4 4 (e.year * 100 + e.month))

/-- A prompt (6). -/
def storedPromptBytes (p : Prompt) : List Byte := [p.kind.code, p.count] ++ w32Bytes p.value

/-- The first `n` bytes of a list, padded with 0x00. -/
def padTo (n : Nat) (l : List Byte) : List Byte := (l ++ List.replicate n 0).take n

/-- Member points: bit 0 M, bit 1 S, bit 2 D (R194). -/
def membersByte (l : List Member) : Byte :=
  bitsByte
    [l.any fun m => placeOf m.point == .m, l.any fun m => placeOf m.point == .s, l.any fun m => placeOf m.point == .d]

/-- A line (26); its allowance for DSL, its reservation or charge for RFR and DEF. -/
def lineBytes (r : Product) (l : Line) : List Byte :=
  [l.state.code] ++ toBE 4 (l.price.getD 0) ++ toBE 4 l.volume ++ toBE 4 l.amount
    ++ toBE 4 (if r = .dsl then l.allowance else l.reservation) ++ toBE 4 l.limit ++ [membersByte l.members]
    ++ toBE 4 l.overrun

/-- A delivery list entry (16). -/
def deliveryBytes (d : DeliveryEntry) : List Byte :=
  [pointByte d.point, productCode d.line] ++ toBE 4 d.volume ++ [d.endReason.code] ++ timeBytes (some d.start)
    ++ [bitsByte [d.degraded, d.sat]]

/-- The sale record, the data of SALE FETCH and of AUTH READ part 1 (R194). An absent H is sent as 0, and an absent
acquirer reference as length 0 and twelve zeros, the same as an empty reference (DESIGN CHOICE, log 53); the unused
entries of the delivery list are zeros, their times too (DESIGN CHOICE, log 54); the record flags stand in the second
of their two bytes (DEDUCED, log 63). -/
def saleBytes (r : SaleReport) : List Byte :=
  let a := r.record
  [slotByte r.slot] ++ toBE 2 a.serial ++ [laneByte a.lane, countByte (r.position.getD 0xFF),
      countByte r.length]
    ++ (cardNumberBytes a.card ++ expiryBytes a.expiry
      ++ [countByte a.profile, a.snapshot.cls.code, a.snapshot.allowed.toByte])
    ++ (toBE 4 a.requested ++ toBE 4 (a.hold.getD 0) ++ [0, ({ a.flags with sat := r.sat }).toByte]
      ++ [countByte (a.reference.getD []).length] ++ padTo 12 (a.reference.getD []) ++ toBE 4 (a.onlineLimit.getD 0))
    ++ ([countByte a.prompts.length] ++ padTo 24 (a.prompts.flatMap storedPromptBytes))
    ++ (lineBytes .dsl a.lines.dsl ++ lineBytes .rfr a.lines.rfr ++ lineBytes .defl a.lines.defl)
    ++ ([countByte a.deliveries.length] ++ padTo 48 (a.deliveries.flatMap deliveryBytes))
    ++ (toBE 4 r.totalAmount ++ toBE 4 r.totalCharge)
    ++ (timeBytes (some a.created) ++ timeBytes a.firstFlow ++ timeBytes a.settledAt)
    ++ [optCode RecordEnd.code a.endReason]

/-- Part 2 of an AUTH READ reply (R194). With no timer the remaining seconds are 0 (DESIGN CHOICE, log 53); the bound and the
delivered points stand in ascending order, the unused places last (DESIGN CHOICE, log 57). -/
def authPartTwoBytes (r : AuthPartTwo) : List Byte :=
  let a := r.record
  [a.state.code, slotByte r.slot] ++ toBE 2 a.serial
    ++ ([a.snapshot.onlineMode.code, countByte a.snapshot.onlineTimeout] ++ toBE 4 a.snapshot.floorLimit
      ++ toBE 4 a.snapshot.defCap ++ toBE 4 a.snapshot.rfrCap ++ toBE 4 (a.snapshot.capRemaining.getD 0))
    ++ ([optCode (fun t : LiveTimer => t.kind.code) a.timer] ++ toBE 2 r.timerSeconds)
    ++ (padTo 3 (a.bound.map pointByte) ++ padTo 3 (a.delivered.map pointByte) ++ [optCode pointByte r.backLink])

/-- The data of an ACCEPTED card read (R194); STANDIN is 1 when set and 0 when clear (DESIGN CHOICE, log 61). -/
def acceptedBytes (r : AcceptedReport) : List Byte :=
  let a := r.record
  [1, slotByte r.slot] ++ toBE 2 a.serial ++ [r.state.code] ++ toBE 4 a.requested ++ [a.snapshot.allowed.toByte]
    ++ (if r.state = .awaitOnline then
        cardNumberBytes a.card ++ expiryBytes a.expiry ++ [a.snapshot.cls.code, countByte a.prompts.length]
          ++ a.prompts.flatMap storedPromptBytes
      else toBE 4 (a.hold.getD 0) ++ [yesNoByte a.flags.standin])

/-! ### Notices -/

/-- Subject of a notice: type (0 site, 1 lane, 2 point, 3 pump, 4 serial) and value (R194). The site's value is 0
(DESIGN CHOICE, log 52). -/
def NoticeBody.subject (b : NoticeBody) : Byte × Nat :=
  match b with
  | .restarted _ _ _ => (0, 0)
  | .authResult serial _ _ _ => (4, serial)
  | .pointFinal p _ _ _ _ => (2, pointNumber p)
  | .pointLiftOos p => (2, pointNumber p)
  | .saleReady serial _ _ _ => (4, serial)
  | .pointAlarm _ p _ => (2, pointNumber p)
  | .siteAlarm _ _ => (0, 0)
  | .estop _ _ _ => (0, 0)
  | .counterReport p _ _ => (2, pointNumber p)
  | .pumpStarted k => (3, (pumpCode k).toNat)
  | .pumpStopped k => (3, (pumpCode k).toNat)
  | .pumpFailed k _ _ => (3, (pumpCode k).toNat)
  | .calChanged p _ _ _ _ => (2, pointNumber p)

/-- The kind code of a notice (R194). -/
def NoticeBody.code (b : NoticeBody) : Byte :=
  match b with
  | .restarted _ _ _ => 1
  | .authResult _ _ _ _ => 2
  | .pointFinal _ _ _ _ _ => 3
  | .pointLiftOos _ => 3
  | .saleReady _ _ _ _ => 4
  | .pointAlarm _ _ _ => 5
  | .siteAlarm _ _ => 5
  | .estop _ _ _ => 6
  | .counterReport _ _ _ => 7
  | .pumpStarted _ => 8
  | .pumpStopped _ => 8
  | .pumpFailed _ _ _ => 8
  | .calChanged _ _ _ _ _ => 9

/-- Outcome and reason of an AUTH_RESULT. -/
def AuthOutcome.bytes (o : AuthOutcome) : List Byte :=
  match o with
  | .standin => [1, 0]
  | .declinedTimeout => [2, 0]
  | .expired => [3, 0]
  | .cancelledHotCard => [4, 1]
  | .cancelledLateDecline => [4, 2]
  | .cancelledEstop => [4, 3]

def RestartCause.code (c : RestartCause) : Byte :=
  match c with
  | .cold => 1
  | .resetRequest => 2
  | .brownOut => 3

def PumpCause.code (c : PumpCause) : Byte :=
  match c with
  | .readyTimeout => 1
  | .readyLost => 2

def CalSource.code (c : CalSource) : Byte :=
  match c with
  | .proveResult => 1
  | .pointConfig => 2

/-- An edge: 1 for set or asserted, 2 for clear or deasserted. -/
def edgeByte (set : Bool) : Byte := if set then 1 else 2

/-- P (2) and C (4, two's complement). -/
def calBytes (c : Calibration) : List Byte := toBE 2 c.p ++ w32Bytes (BitVec.ofInt 32 c.c)

def countersBytes (c : Counters) : List Byte :=
  toBE 2 c.phase ++ toBE 2 c.chloss ++ toBE 2 c.reverse ++ toBE 2 c.surge ++ toBE 2 c.noflow ++ toBE 2 c.unauth

/-- The data of a notice (R194). STARTED and STOPPED of a pump send 0 points finished (DESIGN CHOICE, log 53); the latch in
ESTOP is 1 when set and 0 when clear (DESIGN CHOICE, log 61); the codes of its lists count from 1 (DEDUCED, log 63). -/
def NoticeBody.dataBytes (b : NoticeBody) : List Byte :=
  match b with
  | .restarted c settled freed => [c.code, countByte settled, countByte freed]
  | .authResult _ l o hold => [laneByte l] ++ o.bytes ++ toBE 4 hold
  | .pointFinal _ serial line volume reason => [1] ++ toBE 2 serial ++ [productCode line] ++ toBE 4 volume ++ [reason.code]
  | .pointLiftOos _ => [2]
  | .saleReady _ l reason total => [laneByte l, optCode RecordEnd.code reason] ++ toBE 4 total
  | .pointAlarm k _ set => [k.code, edgeByte set]
  | .siteAlarm k set => [k.code, edgeByte set]
  | .estop asserted latch n => [edgeByte asserted, yesNoByte latch, countByte n]
  | .counterReport _ c t => countersBytes c ++ timeBytes t
  | .pumpStarted _ => [1, 0, 0]
  | .pumpStopped _ => [2, 0, 0]
  | .pumpFailed _ c n => [3, c.code, countByte n]
  | .calChanged _ n c old new => toBE 2 n ++ [c.code] ++ calBytes old ++ calBytes new

/-- A notice in the NEXT NOTICE reply (R194). -/
def noticeBytes (n : Notice) : List Byte :=
  [n.body.code] ++ timeBytes (some n.time) ++ [n.body.subject.1] ++ toBE 2 n.body.subject.2
    ++ [countByte n.body.dataBytes.length] ++ n.body.dataBytes

/-- One point of a TOTALS READ reply (R141); the fault latch is 1 when set and 0 when clear (DESIGN CHOICE, log 61). -/
def totalsBytes (e : TotalsEntry) : List Byte := toBE 8 e.totaliser ++ calBytes e.cal ++ [yesNoByte e.faultLatch]

/-! ### Settings as stored

A reply that carries a set of settings as stored sends them in the order and sizes of the request that stores them (R194's
table of requests; DEDUCED, log 68), the subject first (DESIGN CHOICE, log 59). -/

/-- The fields of PROFILE WRITE. -/
def profileBytes (index : Nat) (p : Profile) : List Byte :=
  [countByte index] ++ toBE 5 p.rangeLow ++ toBE 5 p.rangeHigh
    ++ [p.cls.code, yesNoByte p.active, countByte p.tier, yesNoByte p.allLanes, p.products.toByte, p.prompts.toByte,
      countByte p.predicate]
    ++ toBE 2 p.window ++ [p.onlineMode.code, countByte p.onlineTimeout]
    ++ toBE 4 p.floorLimit ++ toBE 4 p.preAuth ++ toBE 4 p.defCap ++ toBE 4 p.rfrCap ++ [countByte p.maxAuths]
    ++ toBE 4 p.dailyCap

/-- The fields of LANE CONFIG. -/
def laneConfigBytes (l : Lane) (c : LaneConfig) : List Byte :=
  [laneByte l, yesNoByte c.enabled, countByte c.tier, yesNoByte c.sFitted, productCode c.sProduct, yesNoByte c.dFitted]

/-- The fields of POINT CONFIG. -/
def pointConfigBytes (p : Point) (c : PointConfig) (cal : Calibration) : List Byte :=
  [pointByte p, c.noise.code, countByte c.reverseAllowance, countByte c.window, countByte c.noFlowTime,
      countByte c.surgeCode, yesNoByte c.surgeHold]
    ++ calBytes cal

/-- The fields of PRODUCT CONFIG. -/
def productBytes (r : Product) (e : ProductEntry) : List Byte :=
  [productCode r] ++ toBE 4 e.price ++ toBE 2 e.startBand ++ toBE 2 e.slowDown ++ toBE 2 e.closeAhead
    ++ toBE 2 e.softStop ++ toBE 2 e.tolerance

def pumpSettingsBytes (c : PumpSettings) : List Byte :=
  [yesNoByte c.readyCheck, countByte c.spinUp, countByte c.readyWait, countByte c.runOn]

/-- The fields of SITE CONFIG. -/
def siteBytes (c : SiteConfig) : List Byte :=
  toBE 2 c.armingTime ++ toBE 2 c.idleCloseTime ++ toBE 4 c.deliveryMax
    ++ [countByte c.softStopTime, countByte c.drainTime] ++ toBE 2 c.suspensionLimit
    ++ pumpSettingsBytes c.pumpA ++ pumpSettingsBytes c.pumpB ++ pumpSettingsBytes c.pumpC
    ++ [c.reportMode.code] ++ toBE 2 c.reportInterval

/-! ### Replies -/

/-- The bytes of a reply's data. CLOCK SET sends the RTC before and after, a time of 8 bytes each (R192, R194). Data
whose fields the owning rule lists and R194 sizes in other layouts only are sent in the rule's order at those sizes
(DEDUCED, log 68). None where a field has neither size nor code in the manual (DESIGN CHOICE, log 14). The first point
and the number of points of TOTALS READ take one byte each (DESIGN CHOICE, log 61). The bound points of CANCEL AUTH
stand in ascending order, the unused places last (DESIGN CHOICE, log 57). -/
def ReplyData.bytes (d : ReplyData) : Option (List Byte) :=
  match d with
  | .none => some []
  | .notice left n => some (countByte left :: (match n with | some n => noticeBytes n | Option.none => []))
  | .accepted r => some (acceptedBytes r)
  | .promptNeeded missing retries => some [2, missing.toByte, countByte retries]
  | .declined reason l => some [3, reason.code, optCode laneByte l]
  | .promptKind k => some [k.code]
  | .laneBusy serial st => some (toBE 2 serial ++ [st.code])
  | .settledCount n => some [countByte n]
  | .approved st hold allowed => some ([st.code] ++ toBE 4 hold ++ [allowed.toByte])
  | .declinedProduct => some [3, Decline.product.code, 0]
  | .recordState st => some [optCode RecordState.code st]
  | .recordBound st bound => some ([st.code] ++ padTo 3 (bound.map pointByte))
  | .acquirer up expired => some [acquirerCode up, countByte expired]
  | .sale r => some (saleBytes r)
  | .authPartTwo r => some (authPartTwoBytes r)
  | .freeSlot => some [0]
  | .saleCleared serial n => some (toBE 2 serial ++ [countByte n])
  | .queueLength n => some [countByte n]
  | .profile index p valid => some (profileBytes index p ++ [countByte valid])
  | .profileStored index p => some (profileBytes index p)
  | .profileCount new old => some [countByte new, countByte old]
  | .liveCount n => some [countByte n]
  | .clock before after => some (timeBytes (some before) ++ timeBytes (some after))
  | .lane l c => some (laneConfigBytes l c)
  | .pointConfig p c cal => some (pointConfigBytes p c cal)
  | .product r e => some (productBytes r e)
  | .site c => some (siteBytes c)
  | .alarmMask k subject mask edge => some [k.code, countByte subject, yesNoByte mask, edge.code]
  | .busySerial n => some (toBE 2 n)
  | .totals first l => some ([countByte first, countByte l.length] ++ l.flatMap totalsBytes)
  | .status _ | .profileRefused _ _ | .hotAdded _ _ _ | .hotCount _ | .hotCleared _ _ | .hotMember _ _ | .history _
  | .historyMissing _ _ | .dayClosed _ _ | .point _ | .pointState _ | .pointStage _ _ | .stats _ | .field _ | .pump _
  | .estop _ _ | .flagsCleared _ | .counters _ | .run _ | .correction _ _ | .calibrated _ _ _ _ | .calLog _ _ _ =>
    Option.none

/-- The reply to a request of kind `kind`, built from the state the request left behind (R189). -/
def buildReply (kind : Byte) (st : Status) (d : ReplyData) (s : State) : Reply :=
  { kind := kind + 0x80
    status := st
    summary := summaryByte s
    data := d
    frame :=
      d.bytes.map fun bs =>
        frameBytes (s.link.station.setWidth 8) ((kind + 0x80) :: st.code :: summaryByte s :: bs) }

/-- The reply is built and sent: the receiver is in REPLY until its last byte (R187, R189). -/
def reply (kind : Byte) (st : Status) (d : ReplyData) (s : State) : State :=
  { s with link := { s.link with receiver := .reply, reply := some (buildReply kind st d s) } }

/-- A broadcast frame leaves no reply, and the receiver returns to HUNT at once (R188). -/
def endBroadcast (s : State) : State := { s with link := { s.link with receiver := .hunt } }

/-- A request that broadcast does not admit: dropped when sent by broadcast, else taken (R188). -/
def takeRequest (d : Dest) (f : State → State) (s : State) : Out :=
  match d with
  | .station => .next (f s)
  | .broadcast => .next (endBroadcast s)

/-- The end of a request that broadcast admits: replied to, or without reply (R188). -/
def answer (d : Dest) (kind : Byte) (st : Status) (data : ReplyData) (s : State) : State :=
  match d with
  | .station => reply kind st data s
  | .broadcast => endBroadcast s

end Sys2Proof.Machine
end

