-- ==== Sys2Proof/Machine/Valves.lean ====
section
/-! DEFINITION. Machine/Valves.lean: the valve stage of a point and the flow monitor that starts and stops with it
(R88, R144, R145), the leaving of a pump's demand (R112, R113, R115), and the transitions that close a point or move it
between the stages of an open valve (R80, R93, R95 to R98, R103, R106). -/

namespace Sys2Proof.Machine

open Sys2Proof

/-! ### Flow monitor (R144, R145) -/

/-- Pulses of a window for a window code: 4, 8, 16, 32 (R154). -/
def windowSize (code : Nat) : Nat :=
  match code with
  | 0 => 4
  | 1 => 8
  | 2 => 16
  | _ => 32

/-- A window begins: window count and T are 0, its size and limit are taken from the settings as stored (R145). -/
def beginWindow (c : PointConfig) (m : Monitor) : Monitor :=
  { m with count := 0, ticks := 0, size := windowSize c.window, noFlowLimit := secondTicks c.noFlowTime }

/-- The monitor starts at the opening of the valve (R144). -/
def startMonitor (c : PointConfig) (m : Monitor) : Monitor :=
  beginWindow c { m with active := true, frozen := false, reference := none, settle := 0, latest := 0 }

/-- The monitor stops at the closing of the valve (R144). -/
def stopMonitor (m : Monitor) : Monitor := { m with active := false, latest := 0 }

/-- The settle count is reset on entering the fast stage (R147). -/
def resetSettle (p : Point) (s : State) : State := modMonitor p (fun m => { m with settle := 0 }) s

/-! ### Valve stage (R88) -/

/-- The unit of a point whose valve stage becomes `v`: a change from CLOSED starts the flow monitor, a change to CLOSED
stops it, and a change between SLOW and FAST leaves it running (R144). -/
def stageUnit (v : ValveStage) (u : PointUnit) : PointUnit :=
  { u with
    ctl := { u.ctl with stage := v }
    monitor :=
      if u.ctl.stage = .closed then if v = .closed then u.monitor else startMonitor u.config u.monitor
      else if v = .closed then stopMonitor u.monitor else u.monitor }

def setStage (p : Point) (v : ValveStage) (s : State) : State := modPoint p (stageUnit v) s

/-! ### Leaving a pump's demand -/

/-- A pump with an empty demand set and nothing to wait for enters RUN_ON; with a run-on time of 0 it passes through to
STOPPED in the same action, with its notice (R115, R116). -/
def enterRunOn (k : Pump) (s : State) : State :=
  if (s.pumpSettings k).runOn = 0 then
    pushNotice (.pumpStopped k) (modPump k (fun r => { r with state := .stopped, timer := none }) s)
  else
    modPump k
      (fun r => { r with state := .runOn, timer := some ⟨.runOn, secondTicks (s.pumpSettings k).runOn⟩ }) s

/-- A point leaves its pump's demand set; a RUNNING pump whose set becomes empty enters RUN_ON (R112, R115). A point
that is not in the set changes nothing. -/
def demandLeave (p : Point) (s : State) : State :=
  let k := s.pumpOfPoint p
  if (s.pump k).demand.contains p then
    let s' := modPump k (fun r => { r with demand := r.demand.filter (· != p) }) s
    if (s'.pump k).state = .running && (s'.pump k).demand.isEmpty then enterRunOn k s' else s'
  else s

/-! ### Closing a point -/

/-- The valve of a point closes and the point leaves its pump's demand. -/
def closeValve (p : Point) (s : State) : State := demandLeave p (setStage p .closed s)

/-- The controller of a bound point that enters FINISHED: the reason is loaded here and in the delivery record, and the
drain timer is started (R97, R101, R103). -/
def finishRecord (reason : EndReason) (drainTime : Nat) (c : PointRecord) : PointRecord :=
  { c with
    state := .finished
    finishReason := some reason
    suspendCause := none
    softReason := none
    stopPending := none
    timer := some ⟨.drain, secondTicks drainTime⟩
    delivery := c.delivery.map fun d => { d with endReason := some reason } }

/-- A bound point closes at once and enters FINISHED with a reason (R97, R103). -/
def enterFinished (p : Point) (reason : EndReason) (s : State) : State :=
  closeValve p (modCtl p (finishRecord reason s.site.drainTime) s)

/-- An immediate-close cause reaches a point: it acts on a bound point that is not yet FINISHED (R97). -/
def closeFor (p : Point) (reason : EndReason) (s : State) : State :=
  if s.isBound p && (s.point p).ctl.state != .finished then enterFinished p reason s else s

/-- A point closes into SUSPENDED: a soft stop under way becomes the pending stop, and the suspension timer starts
(R98). -/
def enterSuspended (p : Point) (cause : SuspendCause) (s : State) : State :=
  closeValve p
    (modCtl p
      (fun c =>
        { c with
          state := .suspended
          suspendCause := some cause
          stopPending := if c.state = .stopping then c.softReason else none
          softReason := none
          timer := some ⟨.suspension, secondTicks s.site.suspensionLimit⟩ })
      s)

/-- V of a point's delivery record, 0 without one. -/
def State.deliveryVolume (s : State) (p : Point) : Nat :=
  match (s.point p).ctl.delivery with
  | some d => d.volume
  | none => 0

/-- A point with its valve open enters STOPPING: the SLOW stage is held, the stop reference loaded and the soft-stop
timer started (R95). -/
def enterStopping (p : Point) (reason : EndReason) (s : State) : State :=
  setStage p .slow
    (modCtl p
      (fun c =>
        { c with
          state := .stopping
          softReason := some reason
          stopRef := s.deliveryVolume p
          timer := some ⟨.softStop, secondTicks s.site.softStopTime⟩ })
      s)

/-- A soft stop given by a record to one of its bound points, by the point's state (R96). -/
def softStopPoint (p : Point) (reason : EndReason) (s : State) : State :=
  match (s.point p).ctl.state with
  | .softStart | .fast | .slowDown => enterStopping p reason s
  | .waitPump | .suspended => enterFinished p reason s
  | _ => s

/-- A point enters FAST; its flow monitor's settle count is reset (R93, R147). -/
def enterFast (p : Point) (s : State) : State :=
  resetSettle p (setStage p .fast (modCtl p (fun c => { c with state := .fast }) s))

/-- A point enters SLOW_DOWN (R80, R81). -/
def enterSlowDown (p : Point) (s : State) : State :=
  setStage p .slow (modCtl p (fun c => { c with state := .slowDown }) s)

/-! ### Out of service (R106) -/

/-- The controller of a point that enters OUT_OF_SERVICE. -/
def outOfServiceRecord (c : PointRecord) : PointRecord :=
  { c with state := .outOfService, finishReason := none, timer := none }

/-- The fault latch is set; an unbound point in IDLE, CALLING or FINISHED enters OUT_OF_SERVICE at once (R106). -/
def setFaultLatch (p : Point) (s : State) : State :=
  modCtl p
    (fun c =>
      let c' := { c with faultLatch := true }
      if c.binding.isNone && (c.state = .idle || c.state = .calling || c.state = .finished) then outOfServiceRecord c'
      else c')
    s

/-! ### Proving runs: ending (R184) -/

/-- The run volume under the point's calibration record (R181). -/
def State.runVolume (s : State) (p : Point) : Nat :=
  match (s.point p).ctl.proving with
  | some r => volumeOf (s.point p).cal r.net
  | none => 0

/-- The end cause is loaded at the ending event and not changed afterward (R184). -/
def loadEnd (cause : Option ProveEnd) (r : ProvingRun) : ProvingRun := { r with endCause := r.endCause.or cause }

/-- A run enters DRAIN: its valve is closed, it leaves its pump's demand, and the drain timer is started (R184). -/
def enterProvingDrain (p : Point) (cause : ProveEnd) (s : State) : State :=
  closeValve p
    (modCtl p
      (fun c =>
        { c with
          timer := some ⟨.drain, secondTicks s.site.drainTime⟩
          proving := c.proving.map fun r => { loadEnd (some cause) r with phase := .drain } })
      s)

/-- A totaliser raised by a volume, held at its bound (R140). -/
def raiseTotaliser (p : Point) (v : Nat) (s : State) : State :=
  modPoint p (fun u => { u with totaliser := max u.totaliser (min (u.totaliser + v) Config.maxTotal) }) s

/-- A run enters DONE: N_meas is frozen, and the totaliser is raised by the run volume (R184). The cause is that of the
event that ends the run, none at the end of its drain. -/
def enterProvingDone (p : Point) (cause : Option ProveEnd) (s : State) : State :=
  raiseTotaliser p (s.runVolume p)
    (closeValve p
      (modCtl p
        (fun c =>
          { c with
            timer := none
            proving := c.proving.map fun r =>
              { loadEnd cause r with phase := .done, measured := some r.net, totalised := true } })
        s))

/-- A run in SLOW or FAST that is stopped enters TAIL: the SLOW stage is held, the stop reference loaded and the
soft-stop timer started (R184). -/
def enterProvingTail (p : Point) (cause : ProveEnd) (s : State) : State :=
  setStage p .slow
    (modCtl p
      (fun c =>
        { c with
          timer := some ⟨.softStop, secondTicks s.site.softStopTime⟩
          proving := c.proving.map fun r => { loadEnd (some cause) r with phase := .tail, stopRef := s.runVolume p } })
      s)

/-- The phase of a point's run, where it has one. -/
def State.provePhase (s : State) (p : Point) : Option ProvePhase := (s.point p).ctl.proving.map ProvingRun.phase

/-- A closing cause reaches a proving run: before DRAIN it closes the valve and the run enters DRAIN (R184). -/
def closeRunFor (p : Point) (cause : ProveEnd) (s : State) : State :=
  match s.provePhase p with
  | some .liftWait | some .pumpWait | some .slow | some .fast | some .tail => enterProvingDrain p cause s
  | _ => s

end Sys2Proof.Machine
end

