-- ==== Sys2Proof/Machine/Lines.lean ====
section
/-! DEFINITION. Machine/Lines.lean: the product lines of a record: volume and amount (R68, R70), allowance (R73, R75),
free money and reservation (R74), volume limit (R72), and the limit evaluation with its actions (R79 to R81). -/

namespace Sys2Proof.Machine

open Sys2Proof

/-! ### Volume and amount -/

/-- The sum of the members' volumes, before its cap (R68). -/
def memberSum (l : List Member) : Nat := (l.map Member.volume).sum

/-- A line's volume and amount formed again from its members (R68, R70). -/
def Line.reform (l : Line) : Line :=
  { l with
    volume := min (memberSum l.members) Config.maxReported
    amount := amountOf (min (memberSum l.members) Config.maxReported) (l.price.getD 0) }

/-- The forming of a line saturates: its volume or its amount is beyond 9,999,999 (R68, R70). -/
def Line.saturates (l : Line) : Bool :=
  Config.maxReported < memberSum l.members
    || Config.maxReported < rawAmount (min (memberSum l.members) Config.maxReported) (l.price.getD 0)

def setMember (p : Point) (v : Nat) (l : List Member) : List Member :=
  l.map fun m => if m.point = p then { m with volume := v } else m

def Line.hasMember (l : Line) (p : Point) : Bool := l.members.any fun m => m.point == p

/-- A record whose member `p` of line `r` has volume `v` now. A point that is no member changes nothing (R74). -/
def AuthRecord.withVolume (a : AuthRecord) (r : Product) (p : Point) (v : Nat) : AuthRecord :=
  if (a.lines.get r).hasMember p then
    let l := { a.lines.get r with members := setMember p v (a.lines.get r).members }
    { a with lines := a.lines.set r l.reform, flags := { a.flags with sat := a.flags.sat || l.saturates } }
  else a

/-! ### Money -/

/-- What an opened secondary line counts against the hold: its reservation while OPEN, its charge once FINAL (R69). -/
def Line.charge (l : Line) : Nat :=
  match l.state with
  | .unopened => 0
  | .opened | .final => l.reservation

/-- The primary allowance: H less the reservations of OPEN and the charges of FINAL secondary lines (R73, R75). -/
def AuthRecord.primaryAllowance (a : AuthRecord) : Nat :=
  a.hold.getD 0 - (a.lines.rfr.charge + a.lines.defl.charge)

/-- The free money a secondary line may reserve from; it may be negative (R74). -/
def AuthRecord.freeMoney (a : AuthRecord) (r : Product) : Int :=
  (a.hold.getD 0 : Int) - (a.lines.dsl.amount : Int)
    - ((match r with
        | .rfr => a.lines.defl.charge
        | .defl => a.lines.rfr.charge
        | .dsl => a.lines.rfr.charge + a.lines.defl.charge : Nat) : Int)

/-- The cap of a secondary line's product (R74). -/
def Snapshot.cap (x : Snapshot) (r : Product) : Nat :=
  match r with
  | .defl => x.defCap
  | .rfr => x.rfrCap
  | .dsl => 0

/-- The reservation of a secondary line that opens now (R74). -/
def AuthRecord.reservationFor (a : AuthRecord) (r : Product) : Nat :=
  min (a.snapshot.cap r) (a.freeMoney r).toNat

/-- The bound a DSL line takes from an optional volume. -/
def capBy (o : Option Nat) (v : Nat) : Nat :=
  match o with
  | some c => min c v
  | none => v

/-- The volume limit L of a line with an allowance (R72). -/
def volumeLimit (site : SiteConfig) (a : AuthRecord) (r : Product) (allowance price : Nat) : Nat :=
  let base := min (volForMoney allowance price) site.deliveryMax
  if r = .dsl then capBy a.onlineLimit (capBy a.snapshot.capRemaining base) else base

/-- The DSL line of a record with its allowance and L computed again (R75). -/
def AuthRecord.recomputePrimary (site : SiteConfig) (a : AuthRecord) : AuthRecord :=
  { a with
    lines :=
      { a.lines with
        dsl :=
          { a.lines.dsl with
            allowance := a.primaryAllowance
            limit := volumeLimit site a .dsl a.primaryAllowance (a.lines.dsl.price.getD 0) } } }

/-! ### Limit evaluation -/

/-- The remainder r of a line: L less the line volume, signed (R79). -/
def Line.remainder (l : Line) : Int := (l.limit : Int) - (l.volume : Int)

/-- The line a point's binding names, where its record is held. -/
def State.boundLine (s : State) (p : Point) : Option Line :=
  (s.point p).ctl.binding.bind fun b =>
    (s.slotOfSerial b.serial).bind fun k => (s.slot k).map fun a => a.lines.get b.line

/-- The remainder of the line a point is bound to. -/
def State.remainderOf (s : State) (p : Point) : Int :=
  match s.boundLine p with
  | some l => l.remainder
  | none => 0

/-- The close-ahead action at one member point (R79). -/
def closeAheadPoint (serial : Nat) (p : Point) (s : State) : State :=
  if (s.point p).ctl.binding.any fun b => b.serial == serial then closeFor p .limit s else s

/-- The slow-down action at one member point (R80). -/
def slowDownPoint (serial : Nat) (p : Point) (s : State) : State :=
  if (s.point p).ctl.binding.any fun b => b.serial == serial then
    match (s.point p).ctl.state with
    | .fast | .softStart => enterSlowDown p s
    | _ => s
  else s

def memberPoints (l : Line) : List Point := l.members.map Member.point

/-- A limit evaluation of a line of the record in a slot (R79, R80): only an OPEN line is evaluated. -/
def evaluateLine (k : Slot) (r : Product) (s : State) : State :=
  match s.slot k with
  | none => s
  | some a =>
    let l := a.lines.get r
    if l.state = .opened then
      if l.remainder ≤ (s.product r).closeAhead then
        (memberPoints l).foldl (fun t p => closeAheadPoint a.serial p t) s
      else if l.remainder ≤ (s.product r).slowDown then
        (memberPoints l).foldl (fun t p => slowDownPoint a.serial p t) s
      else s
    else s

/-- The primary allowance is recomputed where the DSL line is OPEN, and a limit evaluation of it follows (R75). -/
def recomputeAndEvaluate (k : Slot) (s : State) : State :=
  match s.slot k with
  | none => s
  | some a =>
    if a.lines.dsl.state = .opened then
      evaluateLine k .dsl (modSlot k (AuthRecord.recomputePrimary s.site) s)
    else s

end Sys2Proof.Machine
end

