-- ==== Sys2Proof/Machine/Pumping.lean ====
section
/-! DEFINITION. Machine/Pumping.lean: the opening of a valve (R81, R92, R183), the joining of a pump's demand (R112,
R113, R115, R116), the report of RUNNING (R115), and the failure of a pump (R118). -/

namespace Sys2Proof.Machine

open Sys2Proof

/-! ### Opening -/

/-- The stage a bound point opens into, from its line's remainder (R81, R92): none when it does not open. -/
def openingState (e : ProductEntry) (r : Int) : Option PointState :=
  if r ≤ e.closeAhead then none else if r ≤ e.slowDown then some .slowDown else some .softStart

/-- A bound point opens its valve, or finishes with LIMIT without opening (R81, R92). The start reference is its V. -/
def openPoint (p : Point) (s : State) : State :=
  match openingState (s.product (s.productOf p)) (s.remainderOf p) with
  | none => enterFinished p .limit s
  | some st =>
    setStage p .slow
      (modCtl p (fun c => { c with state := st, startRef := s.deliveryVolume p, timer := none }) s)

/-- A run in PUMP_WAIT opens its valve on the slow stage and enters SLOW (R183). -/
def openProving (p : Point) (s : State) : State :=
  setStage p .slow (modRun p (fun r => { r with phase := .slow, startRef := s.runVolume p }) s)

/-- A point of a demand set is told that its pump runs: a point in WAIT_PUMP opens, and a run in PUMP_WAIT (R115). -/
def tellRunning (p : Point) (s : State) : State :=
  match (s.point p).ctl.state with
  | .waitPump => openPoint p s
  | .proving => if s.provePhase p = some .pumpWait then openProving p s else s
  | _ => s

/-! ### Demand -/

/-- A point added to a demand set, held in ascending order; it appears once (R112). -/
def addPoint (p : Point) (l : List Point) : List Point := allPoints.filter fun q => q == p || l.contains q

/-- A point joins its pump's demand set, and the pump acts in its state: STOPPED starts (R113), RUNNING tells the point
at once (R115), RUN_ON returns to RUNNING first (R116). A FAILED pump is never joined (R118). -/
def demandJoin (p : Point) (s : State) : State :=
  let k := s.pumpOfPoint p
  let spin := (s.pumpSettings k).spinUp * Config.ticksPerTenth
  let joined := modPump k (fun r => { r with demand := addPoint p r.demand }) s
  match (s.pump k).state with
  | .stopped =>
    pushNotice (.pumpStarted k)
      (modPump k (fun r => { r with state := .starting, timer := some ⟨.spinUp, spin⟩ }) joined)
  | .starting => joined
  | .running => tellRunning p joined
  | .runOn => tellRunning p (modPump k (fun r => { r with state := .running, timer := none }) joined)
  | .failed => s

/-- A bound point whose delivery goes on: it enters WAIT_PUMP and joins its pump's demand, or finishes with PUMP_FAIL
when the pump is FAILED (R90, R99, R118). -/
def enterWaitPump (p : Point) (s : State) : State :=
  if (s.pump (s.pumpOfPoint p)).state = .failed then enterFinished p .pumpFail s
  else
    demandJoin p
      (modCtl p (fun c => { c with state := .waitPump, suspendCause := none, stopPending := none, timer := none }) s)

/-- A run that waits for its pump: it enters PUMP_WAIT and joins the demand, or ends with PUMP_FAIL when the pump is
FAILED (R182, R183). -/
def enterPumpWait (p : Point) (s : State) : State :=
  if (s.pump (s.pumpOfPoint p)).state = .failed then enterProvingDrain p .pumpFail s
  else demandJoin p (modRun p (fun r => { r with phase := .pumpWait }) s)

/-! ### Up to pressure and failure -/

/-- A STARTING pump that is up to pressure enters RUNNING and reports it to every point of its demand set, in point
order (R115; DESIGN CHOICE, log 33), or RUN_ON when the set is empty (R114). -/
def upToPressure (k : Pump) (s : State) : State :=
  if (s.pump k).demand.isEmpty then enterRunOn k s
  else
    (s.pump k).demand.foldl (fun t p => tellRunning p t)
      (modPump k (fun r => { r with state := .running, timer := none }) s)

/-- The pump-failure cause at one point of the demand set (R97, R118, R184). -/
def failPoint (p : Point) (s : State) : State :=
  if (s.point p).ctl.state = .proving then closeRunFor p .pumpFail s else closeFor p .pumpFail s

def pumpAlarm (k : Pump) : SiteAlarm :=
  match k with
  | .a => .pumpFailA
  | .b => .pumpFailB
  | .c => .pumpFailC

/-- A pump enters FAILED: every point of its demand set takes the failure, the alarm is raised and PUMP_EVENT(FAILED)
queued with the number of points finished (R118; a proving run is not finished, DEDUCED, log 26). R118 has these in one
action; that the alarm's notice stands before PUMP_EVENT(FAILED) in the queue is the model's (DESIGN CHOICE, log 65). -/
def pumpFail (k : Pump) (cause : PumpCause) (s : State) : State :=
  let points := (s.pump k).demand
  let finished := points.countP fun p => (s.point p).ctl.state != .proving
  let s1 := modPump k (fun r => { r with state := .failed, timer := none, cause := some cause }) s
  let s2 := points.foldl (fun t p => failPoint p t) s1
  let s3 := modPump k (fun r => { r with demand := [] }) s2
  pushNotice (.pumpFailed k cause finished) (presentSite (pumpAlarm k) true s3)

end Sys2Proof.Machine
end

