-- ==== Sys2Proof/Machine/Binding.lean ====
section
/-! DEFINITION. Machine/Binding.lean: the answer to a point that asks to bind (R57, R58, R90), the opening and joining
of lines (R73, R74), the tandem start (R58), and the entry of a record into ARMED (R56). -/

namespace Sys2Proof.Machine

open Sys2Proof

/-- The authorization manager's answer to a point (R57); a binding on a FAILED pump is made and then ended. -/
inductive BindAnswer where
  | bind | alreadyDelivered | wait
  deriving DecidableEq, Repr

/-- A DSL satellite: an S point configured for DSL (R58). -/
def State.isSatellite (s : State) (p : Point) : Bool := placeOf p == .s && s.productOf p == .dsl

/-- The record is in a state in which points may bind, and is not CLOSING (R57). -/
def AuthRecord.admitsBinding (a : AuthRecord) : Bool :=
  (a.state == .armed || a.state == .delivering || a.state == .idleOpen) && !a.flags.closing

def bindAnswer (s : State) (a : AuthRecord) (p : Point) : BindAnswer :=
  if a.admitsBinding && a.snapshot.allowed.has (s.productOf p)
      && (!s.isSatellite p || a.lines.dsl.state == .opened) then
    if a.delivered.contains p then .alreadyDelivered else .bind
  else .wait

/-- The delivery record a binding loads (R105). -/
def newDelivery (serial : Nat) (r : Product) (start : Time) (backLink : Option Point) : Delivery where
  serial := serial
  line := r
  net := 0
  peak := 0
  volume := 0
  degraded := false
  sat := false
  start := start
  endReason := none
  backLink := backLink
  final := false

/-- The record with one more bound point: it is DELIVERING, and its live timer stops (R59, R60). -/
def AuthRecord.bindPoint (p : Point) (a : AuthRecord) : AuthRecord :=
  { a with state := .delivering, timer := none, bound := addPoint p a.bound }

/-- The binding and a new delivery record are loaded; reverse found is cleared (R90, R105, R133). -/
def loadBinding (k : Slot) (p : Point) (s : State) : State :=
  match s.slot k with
  | none => s
  | some a =>
    let back := if s.isSatellite p then some (pointM (laneOf p)) else none
    modSlot k (AuthRecord.bindPoint p)
      (modMeter p (fun m => { m with reverseFound := false })
        (modCtl p
          (fun c =>
            { c with
              binding := some ⟨a.serial, s.productOf p⟩
              delivery := some (newDelivery a.serial (s.productOf p) s.now back) })
          s))

/-- A line with one more member, its volume formed again (R67, R68). -/
def Line.join (p : Point) (l : Line) : Line :=
  let joined : Line := { l with members := l.members ++ [⟨p, 0⟩] }
  joined.reform

/-- The record with its primary line opened (R73). -/
def AuthRecord.openPrimary (site : SiteConfig) (price : Nat) (a : AuthRecord) : AuthRecord :=
  { a with
    lines :=
      { a.lines with
        dsl :=
          { a.lines.dsl with
            state := .opened
            price := some price
            allowance := a.primaryAllowance
            limit := volumeLimit site a .dsl a.primaryAllowance price } } }

/-- The record with a secondary line opened against a reservation (R74). -/
def AuthRecord.openSecondary (site : SiteConfig) (r : Product) (price : Nat) (a : AuthRecord) : AuthRecord :=
  let x := a.reservationFor r
  { a with
    lines :=
      a.lines.set r
        { a.lines.get r with
          state := .opened
          price := some price
          allowance := x
          reservation := x
          limit := volumeLimit site a r x price } }

/-- The record with a point joined to its line. -/
def AuthRecord.joinLine (r : Product) (p : Point) (a : AuthRecord) : AuthRecord :=
  { a with lines := a.lines.set r ((a.lines.get r).join p) }

/-- The binding reaches its line: the line is opened or joined, or the binding ends with NO_FUNDS (R73, R74). The
evaluation of the DSL line that a reservation brings comes before the point joins its pump (R75; DEDUCED, log 67). -/
def attachLine (k : Slot) (p : Point) (s : State) : State :=
  match s.slot k with
  | none => s
  | some a =>
    let r := s.productOf p
    let price := (s.product r).price
    match (a.lines.get r).state with
    | .unopened =>
      if r = .dsl then modSlot k (fun a => (a.openPrimary s.site price).joinLine r p) s
      else if a.reservationFor r = 0 then enterFinished p .noFunds s
      else recomputeAndEvaluate k (modSlot k (fun a => (a.openSecondary s.site r price).joinLine r p) s)
    | .opened => modSlot k (AuthRecord.joinLine r p) s
    | .final => s

/-- After the binding evaluation a point that is not FINISHED waits for its pump (R90). -/
def proceed (p : Point) (s : State) : State :=
  if (s.point p).ctl.state = .finished then s else enterWaitPump p s

/-- Points of one line bind in one action: the binding evaluation runs once, with all of them in place (R73, R81,
R90). -/
def bindPoints (k : Slot) (r : Product) (ps : List Point) (s : State) : State :=
  let s1 := ps.foldl (fun t p => loadBinding k p t) s
  let s2 := ps.foldl (fun t p => attachLine k p t) s1
  let s3 := evaluateLine k r s2
  ps.foldl (fun t p => proceed p t) s3

/-- The satellite that a binding of `p` takes with it: the lane's DSL satellite waiting in CALLING (R58). -/
def tandemPartner (s : State) (a : AuthRecord) (p : Point) : List Point :=
  let q := pointS (laneOf p)
  if placeOf p = .m && s.fitted q && s.isSatellite q && (s.point q).ctl.state = .calling && !a.delivered.contains q then
    [q]
  else []

/-- A point asks to bind, and takes the answer (R57, R90). -/
def askToBind (p : Point) (s : State) : State :=
  match s.liveSlot (laneOf p) with
  | none => s
  | some k =>
    match s.slot k with
    | none => s
    | some a =>
      match bindAnswer s a p with
      | .wait => s
      | .alreadyDelivered =>
        modCtl p (fun c => { c with state := .finished, finishReason := some .alreadyDelivered, timer := none }) s
      | .bind => bindPoints k (s.productOf p) (p :: tandemPartner s a p) s

/-- A point enters CALLING and asks to bind (R89). -/
def enterCalling (p : Point) (s : State) : State := askToBind p (modCtl p (fun c => { c with state := .calling }) s)

/-- A point in CALLING is presented for binding (R56). -/
def presentCalling (p : Point) (s : State) : State :=
  if (s.point p).ctl.state = .calling then askToBind p s else s

/-- A record enters ARMED: its arming timer starts, and the lane's points in CALLING are presented for binding in the
order M, S, D (R56). -/
def enterArmed (k : Slot) (s : State) : State :=
  match s.slot k with
  | none => s
  | some a =>
    (pointsOf a.lane).foldl (fun t p => presentCalling p t)
      (modSlot k (fun a => { a with state := .armed, timer := some ⟨.arming, secondTicks s.site.armingTime⟩ }) s)

end Sys2Proof.Machine
end

