-- ==== Sys2Proof/Machine/Settlement.lean ====
section
/-! DEFINITION. Machine/Settlement.lean: how records end: freeing (R45), the merge of a final delivery (R76 to R78,
R104, R159), the release of its binding (R59), settlement (R85, R158, R160), the card history at settlement (R37), and
the setting of CLOSING (R61). -/

namespace Sys2Proof.Machine

open Sys2Proof

/-! ### Freeing (R45) -/

def freeSlot (k : Slot) (s : State) : State := setSlot k none s

/-- A record is freed with an AUTH_RESULT notice for its serial and lane (R45). -/
def freeWith (k : Slot) (o : AuthOutcome) (s : State) : State :=
  match s.slot k with
  | none => s
  | some a => pushNotice (.authResult a.serial a.lane o 0) (freeSlot k s)

/-! ### Figures of a record (R160) -/

/-- The sum of the line amounts as billed, UNOPENED lines counting 0. -/
def AuthRecord.billed (a : AuthRecord) : Nat := a.lines.dsl.amount + a.lines.rfr.amount + a.lines.defl.amount

def AuthRecord.totalAmount (a : AuthRecord) : Nat := min a.billed Config.maxReported

/-- The DSL line amount and the charges of the FINAL secondary lines (R160), at most 9,999,999 as every reported money
field (R2). R160 names no cap for it and no flag: the cap leaves SAT as it is (DEDUCED, log 50). -/
def AuthRecord.totalCharge (a : AuthRecord) : Nat :=
  let finalCharge (l : Line) : Nat := if l.state = .final then l.reservation else 0
  min (a.lines.dsl.amount + finalCharge a.lines.rfr + finalCharge a.lines.defl) Config.maxReported

/-- The volume a record adds to its card's fuel volume today: DSL and RFR (R37). -/
def AuthRecord.fuelVolume (a : AuthRecord) : Nat := a.lines.dsl.volume + a.lines.rfr.volume

/-! ### Card history -/

/-- An entry changed and moved to the front of the recency order (R32). -/
def touchHistory (c : CardNumber) (f : HistoryEntry → HistoryEntry) (l : List HistoryEntry) : List HistoryEntry :=
  match l.find? fun e => e.card == c with
  | none => l
  | some e => f e :: l.filter fun e => e.card != c

def modHistory (f : List HistoryEntry → List HistoryEntry) (s : State) : State :=
  { s with screening := { s.screening with history := f s.screening.history } }

/-- The change a settlement makes to an entry (R37). -/
def settleEntry (fuel : Nat) (now : Time) (e : HistoryEntry) : HistoryEntry :=
  { e with volume := min (e.volume + fuel) Config.maxReported, lastUse := now }

/-! ### Settlement (R158) -/

/-- The record of a sale: its lines closed (R85), no live timer, no bound points (R158 steps 1 to 3). -/
def AuthRecord.settle (reason : RecordEnd) (now : Time) (a : AuthRecord) : AuthRecord :=
  { a with
    state := .settled
    timer := none
    endReason := some reason
    settledAt := some now
    bound := []
    lines :=
      { a.lines with dsl := if a.lines.dsl.state = .opened then { a.lines.dsl with state := .final } else a.lines.dsl } }

/-- A serial joins the tail of the sale queue (R157). -/
def joinSales (serial : Nat) (s : State) : State := { s with auth := { s.auth with sales := s.auth.sales ++ [serial] } }

def announceSale (a : AuthRecord) (s : State) : State :=
  pushNotice (.saleReady a.serial a.lane a.endReason a.totalAmount) s

/-- A record settles with an end reason that holds whatever CLOSING loaded, without its notice: what a restart does
(R64, R166), and the base of every settlement. -/
def settleSilently (k : Slot) (reason : RecordEnd) (s : State) : State :=
  match s.slot k with
  | none => s
  | some a =>
    modHistory (touchHistory a.card (settleEntry a.fuelVolume s.now))
      (joinSales a.serial (modSlot k (AuthRecord.settle reason s.now) s))

/-- A record settles: an end reason loaded with CLOSING stands, and SALE_READY is queued (R158, R162). -/
def settle (k : Slot) (reason : RecordEnd) (s : State) : State :=
  match s.slot k with
  | none => s
  | some a =>
    let r := a.endReason.getD reason
    announceSale (a.settle r s.now) (settleSilently k r s)

/-! ### CLOSING (R61) -/

/-- CLOSING is set with an end reason, unless it is set already. -/
def AuthRecord.close (reason : RecordEnd) (a : AuthRecord) : AuthRecord :=
  if a.flags.closing then a else { a with flags := { a.flags with closing := true }, endReason := some reason }

/-! ### Merge (R104) -/

/-- A secondary line at the merge of its delivery: FINAL, its reservation replaced by its charge (R76). -/
def Line.closeSecondary (l : Line) : Line := { l with state := .final, reservation := min l.amount l.reservation }

/-- The overrun of a line: its volume beyond L (R78). -/
def Line.overrunNow (l : Line) : Nat := l.volume - l.limit

/-- The OVER_HOLD test: the line amounts of the opened lines against H (R77). -/
def AuthRecord.testOverHold (a : AuthRecord) : AuthRecord :=
  if a.hold.getD 0 < a.billed then { a with flags := { a.flags with overHold := true } } else a

/-- A secondary line with a member merges: it closes, and the primary is recomputed where it is OPEN (R76). -/
def AuthRecord.mergeSecondary (site : SiteConfig) (r : Product) (a : AuthRecord) : AuthRecord :=
  let b := { a with lines := a.lines.set r (a.lines.get r).closeSecondary }
  if b.lines.dsl.state = .opened then b.recomputePrimary site else b

/-- The record through step 1 of a merge of point `p` with volume `v` into line `r` (R68, R76, R77, R78). A point that
is no member of the line leaves the line as it is (R74). -/
def AuthRecord.mergePoint (site : SiteConfig) (r : Product) (p : Point) (v : Nat) (a : AuthRecord) : AuthRecord :=
  if (a.lines.get r).hasMember p then
    let b := a.withVolume r p v
    let c := if r = .dsl then b else b.mergeSecondary site r
    let d := c.testOverHold
    { d with lines := d.lines.set r { d.lines.get r with overrun := (d.lines.get r).overrunNow } }
  else a.testOverHold

/-- The record with a binding released: the point leaves the bound points and joins the delivered points and the
delivery list (R57, R104, R159). -/
def AuthRecord.release (p : Point) (e : DeliveryEntry) (a : AuthRecord) : AuthRecord :=
  { a with
    bound := a.bound.filter (· != p)
    delivered := addPoint p a.delivered
    deliveries := a.deliveries ++ [e] }

/-- The delivery-list entry of a delivery at its merge (R159). -/
def deliveryEntry (p : Point) (d : Delivery) (v : Nat) (reason : EndReason) : DeliveryEntry where
  point := p
  line := d.line
  volume := v
  endReason := reason
  start := d.start
  degraded := d.degraded
  sat := d.sat

/-- The point's controller with its delivery final and its binding released (R104 step 4). -/
def releaseRecord (v : Nat) (reason : EndReason) (c : PointRecord) : PointRecord :=
  { c with
    binding := none
    delivery := c.delivery.map fun d =>
      { d with volume := v, endReason := some reason, backLink := none, final := true } }

/-- The points a record admits: those fitted whose product is allowed (R59). -/
def State.admitted (s : State) (a : AuthRecord) : List Point :=
  (pointsOf a.lane).filter fun p => s.fitted p && a.snapshot.allowed.has (s.productOf p)

/-- The course of a DELIVERING record whose bound points have become empty (R59). -/
def afterRelease (k : Slot) (s : State) : State :=
  match s.slot k with
  | none => s
  | some a =>
    if a.state = .delivering && a.bound.isEmpty then
      if a.flags.closing then settle k (a.endReason.getD .cancel) s
      else if (s.admitted a).all fun p => a.delivered.contains p then settle k .allDelivered s
      else
        modSlot k (fun a => { a with state := .idleOpen, timer := some ⟨.idleClose, secondTicks s.site.idleCloseTime⟩ }) s
    else s

/-- The overrun found at a merge exceeds the product's tolerance (R78). -/
def State.overrunFound (s : State) (k : Slot) (r : Product) (p : Point) : Bool :=
  match s.slot k with
  | none => false
  | some a => (a.lines.get r).hasMember p && (s.product r).tolerance < (a.lines.get r).overrun

/-- A merge recomputes the primary allowance: it is of a member of a secondary line (R75, R76). -/
def State.mergeRecomputes (s : State) (k : Slot) (r : Product) (p : Point) : Bool :=
  r != .dsl && (s.slot k).any fun a => (a.lines.get r).hasMember p

/-- The merge of the final delivery of a bound point: the line's steps, the totaliser, POINT_EVENT(FINAL), the release
and the record's course, in that order (R104). -/
def mergeDelivery (p : Point) (s : State) : State :=
  match (s.point p).ctl.delivery, s.boundSlot p with
  | some d, some k =>
    let v := volumeOf (s.point p).cal d.net
    let reason := d.endReason.getD .hangUp
    let s1 := modSlot k (AuthRecord.mergePoint s.site d.line p v) s
    let s2 := if s.mergeRecomputes k d.line p then evaluateLine k .dsl s1 else s1
    let s3 := if s2.overrunFound k d.line p then presentPoint .overrun p true s2 else s2
    let s4 := raiseTotaliser p v s3
    let s5 := pushNotice (.pointFinal p d.serial d.line v reason) s4
    let s6 := modCtl p (releaseRecord v reason) s5
    let s7 := modSlot k (AuthRecord.release p (deliveryEntry p d v reason)) s6
    afterRelease k s7
  | _, _ => s

/-- Where a point stands after its merge: OUT_OF_SERVICE with its fault latch set, else IDLE when hung up, else FINISHED
as it was (R102, R103, R106). -/
def restPoint (hung : Bool) (p : Point) (s : State) : State :=
  modCtl p
    (fun c =>
      if c.faultLatch then outOfServiceRecord c
      else if hung then { c with state := .idle, finishReason := none, timer := none }
      else { c with timer := none })
    s

end Sys2Proof.Machine
end

