-- ==== Sys2Proof/Machine/Metering.lean ====
section
/-! DEFINITION. Machine/Metering.lean: one transition of a point's meter inputs: the quadrature decoder (R123, R124),
the places a count goes to (R131 to R134, R181), the windows of the flow monitor (R145 to R151), the noise criterion
(R126, R127) and channel loss (R128 to R130). -/

namespace Sys2Proof.Machine

open Sys2Proof

/-! ### Decoder (R123, R124) -/

/-- The classes of a transition. -/
inductive Turn where
  | forward | reverse | phaseError
  deriving DecidableEq, Repr

/-- The pair that follows in forward flow: 00, 01, 11, 10 and again 00. -/
def pairAfter (p : Pair) : Pair := ⟨p.b, !p.a⟩

/-- The class of a transition (R123). -/
def classify (before after : Pair) : Turn :=
  if after = pairAfter before then .forward else if before = pairAfter after then .reverse else .phaseError

/-- The channel a step moves. -/
def movedChannel (before after : Pair) : Channel := if before.a != after.a then .a else .b

def pairZero : Pair := ⟨false, false⟩

/-- The cycle progress after a transition (R124); a phase error that arrives at 00 leaves 0 there (DESIGN CHOICE, log
44). -/
def nextProgress (t : Turn) (after : Pair) (p : Progress) : Progress :=
  if after = pairZero then .at 0
  else
    match t, p with
    | .phaseError, _ => .abandoned
    | _, .abandoned => .abandoned
    | .forward, .at n => .at (n + 1)
    | .reverse, .at n => .at (n - 1)

/-- A run count after a transition (R123). -/
def nextRun (c : Channel) (t : Turn) (moved : Channel) (n : Nat) : Nat :=
  if t = .phaseError then 0 else if moved = c then min (n + 1) Config.channelLossRun else 0

/-- The decoder after a transition: pair, mark, run counts, progress (R123, R124). -/
def decodeStep (after : Pair) (m : Meter) : Meter :=
  let t := classify m.pair after
  { m with
    pair := after
    progress := nextProgress t after m.progress
    forwardRun := if t = .forward then min (m.forwardRun + 1) 4 else 0
    marks := ((t == .phaseError) :: m.marks).take Config.noiseWindow
    runA := nextRun .a t (movedChannel m.pair after) m.runA
    runB := nextRun .b t (movedChannel m.pair after) m.runB }

/-- The count a transition gives in channel-loss state NORMAL, true for forward (R124). -/
def cycleCount (after : Pair) (m : Meter) : Option Bool :=
  if after = pairZero then
    match classify m.pair after, m.progress with
    | .forward, .at 3 => some true
    | .reverse, .at (-3) => some false
    | _, _ => none
  else none

def channelLevel (p : Pair) (c : Channel) : Bool :=
  match c with
  | .a => p.a
  | .b => p.b

/-- The count a transition gives by the degraded rule: a change of the live channel from 1 to 0 (R129). -/
def degradedCount (live : Channel) (after : Pair) (m : Meter) : Option Bool :=
  if classify m.pair after ≠ .phaseError ∧ channelLevel m.pair live = true ∧ channelLevel after live = false then some true else none

/-- The count of a transition by the channel-loss state it finds. -/
def countOf (after : Pair) (m : Meter) : Option Bool :=
  match m.loss with
  | .normal => cycleCount after m
  | .declared live => degradedCount live after m

/-! ### Flow monitor (R145 to R151) -/

/-- What a comparison of periods finds (R149). -/
inductive Finding where
  | none | surge | flowDrop
  deriving DecidableEq, Repr

def compareTo (reference period code : Nat) : Finding :=
  if toleranceOf reference code < reference - period then .surge
  else if toleranceOf reference code < period - reference then .flowDrop
  else .none

/-- The point stands at its fast stage: FAST, or PROVING in its fast phase (R146 step 4). -/
def State.atFastStage (s : State) (p : Point) : Bool :=
  (s.point p).ctl.state == .fast || ((s.point p).ctl.state == .proving && s.provePhase p == some .fast)

/-- The finding of step 4 of R146. -/
def windowFinding (fast : Bool) (u : PointUnit) (period : Nat) : Finding :=
  match u.monitor.reference with
  | some r => if fast && u.monitor.settle == 3 then compareTo r period u.config.surgeCode else .none
  | none => .none

/-- The monitor after steps 1 to 7 of R146. -/
def closeWindow (u : PointUnit) (period : Nat) : Monitor :=
  let m := u.monitor
  let rate := rateOf u.cal m.size period
  beginWindow u.config
    { m with
      latest := rate
      peak := max m.peak rate
      minimum := min m.minimum rate
      settle := min (m.settle + 1) 3
      reference := some period }

/-- The SURGE event at the point controller (R98, R150, R184). -/
def surgeEvent (p : Point) (s : State) : State :=
  if (s.point p).ctl.state = .proving then closeRunFor p .surge s
  else if (s.point p).ctl.state = .fast && (s.point p).config.surgeHold then enterSuspended p .surge s
  else s

/-- Step 8 of R146; of a surge the alarm, then the count, then the event (R150; DESIGN CHOICE, log 65). -/
def presentFinding (p : Point) (f : Finding) (s : State) : State :=
  match f with
  | .none => s
  | .surge => surgeEvent p (countFault .surge p (presentPoint .surge p true s))
  | .flowDrop => presentPoint .flowDrop p true s

/-- A window completes (R146). -/
def completeWindow (p : Point) (s : State) : State :=
  let u := s.point p
  let period := max u.monitor.ticks 1
  presentFinding p (windowFinding (s.atFastStage p) u period)
    (modMonitor p (fun _ => closeWindow u period) s)

/-- A forward count reaches the flow monitor, which takes it while active and unfrozen (R145, R153). -/
def monitorCount (p : Point) (s : State) : State :=
  let m := (s.point p).monitor
  if m.active && !m.frozen then
    if m.size ≤ m.count + 1 then completeWindow p s
    else modMonitor p (fun m => { m with count := m.count + 1 }) s
  else s

/-! ### Reverse flow (R133) -/

/-- Reverse flow is found: N has fallen from its peak by more than the allowance, for the first time. -/
def reverseIsFound (u : PointUnit) (net peak : Int) : Bool :=
  !u.meter.reverseFound && decide ((u.config.reverseAllowance : Int) < peak - net)

/-- The cause of reverse flow at the point, by what the point is doing. -/
def reverseCause (p : Point) (s : State) : State :=
  if (s.point p).ctl.state = .proving then closeRunFor p .reverse s else closeFor p .reverse s

/-- The reverse-flow check: the alarm, the count, the latch and the cause, in this order (R133; DESIGN CHOICE, log 65).
-/
def reverseCheck (p : Point) (net peak : Int) (s : State) : State :=
  if reverseIsFound (s.point p) net peak then
    reverseCause p
      (setFaultLatch p
        (countFault .reverse p
          (presentPoint .reverseFlow p true (modMeter p (fun m => { m with reverseFound := true }) s))))
  else s

/-! ### Where a count goes (R131) -/

/-- The delivery record after a count: N, N_max, V and SAT (R132 steps 1 and 2, R138). -/
def Delivery.take (cal : Calibration) (forward : Bool) (d : Delivery) : Delivery :=
  { d with
    net := movePulse forward d.net
    peak := max d.peak (movePulse forward d.net)
    volume := volumeOf cal (movePulse forward d.net)
    sat := d.sat || volumeSaturates cal (movePulse forward d.net) }

/-- The record after a count of one of its bound points: time of first flow, SAT, line volume and amount (R132 steps 3
and 4, R138). -/
def AuthRecord.take (forward : Bool) (now : Time) (p : Point) (d : Delivery) (saturated : Bool) (a : AuthRecord) :
    AuthRecord :=
  let b := a.withVolume d.line p d.volume
  { b with
    firstFlow := if forward then b.firstFlow.or (some now) else b.firstFlow
    flags := { b.flags with sat := b.flags.sat || saturated } }

/-- The point's own volume checks: the start band in SOFT_START, the soft-stop volume in STOPPING (R93, R95). -/
def volumeChecks (p : Point) (s : State) : State :=
  let c := (s.point p).ctl
  let e := s.product (s.productOf p)
  match c.state with
  | .softStart =>
    if c.startRef + e.startBand ≤ s.deliveryVolume p then
      if (e.slowDown : Int) < s.remainderOf p then enterFast p s else enterSlowDown p s
    else s
  | .stopping =>
    if c.stopRef + e.softStop ≤ s.deliveryVolume p then enterFinished p (c.softReason.getD .hostStop) s else s
  | _ => s

/-- A count goes to the delivery of a bound point (R132). -/
def deliveryCount (p : Point) (forward : Bool) (s : State) : State :=
  match (s.point p).ctl.delivery, s.boundSlot p with
  | some d, some k =>
    let cal := (s.point p).cal
    let d' := d.take cal forward
    let s1 := modDelivery p (fun _ => d') s
    let s2 := modSlot k (AuthRecord.take forward s.now p d' (volumeSaturates cal d'.net)) s1
    let s3 := volumeChecks p (evaluateLine k d.line s2)
    if forward then s3 else reverseCheck p d'.net d'.peak s3
  | _, _ => s

/-- The run's own volume checks: the start band in SLOW, the soft-stop volume in TAIL (R183, R184). -/
def runChecks (p : Point) (s : State) : State :=
  let e := s.product (s.productOf p)
  match (s.point p).ctl.proving with
  | some r =>
    match r.phase with
    | .slow =>
      if r.startRef + e.startBand ≤ s.runVolume p then
        resetSettle p (setStage p .fast (modRun p (fun r => { r with phase := .fast }) s))
      else s
    | .tail => if r.stopRef + e.softStop ≤ s.runVolume p then enterProvingDrain p .hostStop s else s
    | _ => s
  | none => s

/-- A count goes to the proving count (R181). -/
def provingCount (p : Point) (forward : Bool) (s : State) : State :=
  match (s.point p).ctl.proving with
  | some r =>
    let net := movePulse forward r.net
    let peak := max r.peak net
    let s1 := runChecks p (modRun p (fun r => { r with net := net, peak := peak }) s)
    if forward then s1 else reverseCheck p net peak s1
  | none => s

/-- A forward count at a point that is neither bound nor proving: the fault counter, then the alarm (R134; DESIGN
CHOICE, log 65). -/
def unauthorisedCount (p : Point) (s : State) : State :=
  let n := (s.point p).meter.unauthorised
  let s1 := countFault .unauth p (modMeter p (fun m => { m with unauthorised := bump n }) s)
  if n + 1 = Config.unauthAlarmCount then presentPoint .unauthFlow p true s1 else s1

/-- A proving run that still counts: PROVING in a phase before DONE (R181). -/
def State.runCounts (s : State) (p : Point) : Bool :=
  (s.point p).ctl.state == .proving && (s.point p).ctl.proving.any fun r => r.phase != .done

/-- The place of a count (R131). -/
def placeCount (p : Point) (forward : Bool) (s : State) : State :=
  if s.isBound p then deliveryCount p forward s
  else if s.runCounts p then provingCount p forward s
  else if forward then unauthorisedCount p s
  else s

/-- One count: its place, and for a forward count the flow monitor, in the order the command carries (DESIGN CHOICE,
log 6). -/
def takeCount (p : Point) (order : CountOrder) (forward : Bool) (s : State) : State :=
  if forward then
    match order with
    | .placeFirst => monitorCount p (placeCount p true s)
    | .monitorFirst => placeCount p true (monitorCount p s)
  else placeCount p false s

/-! ### Noise (R126, R127) -/

/-- What follows at the point when noise met is set (R127; a run in DONE, DEDUCED, log 25). -/
def noiseCause (p : Point) (s : State) : State :=
  if s.isBound p then closeFor p .meterNoise (setFaultLatch p s)
  else if s.runCounts p then closeRunFor p .meterNoise (setFaultLatch p s)
  else s

/-- The noise criterion is read, with the mark of this transition in the window (R126); the alarm goes before the cause
(R127; DESIGN CHOICE, log 65). -/
def readNoiseCriterion (p : Point) (s : State) : State :=
  let u := s.point p
  if noiseCriterionMet u.config.noise u.meter.marks then
    if u.meter.noiseMet then s
    else noiseCause p (presentPoint .meterNoise p true (modMeter p (fun m => { m with noiseMet := true }) s))
  else modMeter p (fun m => { m with noiseMet := false }) s

/-! ### Channel loss (R128 to R130) -/

/-- DEGRADED is set in the delivery record of a bound point and in its record (R128). -/
def markDegraded (p : Point) (s : State) : State :=
  match s.boundSlot p with
  | some k =>
    modSlot k (fun a => { a with flags := { a.flags with degraded := true } })
      (modDelivery p (fun d => { d with degraded := true }) s)
  | none => s

/-- Channel loss is declared with a live channel (R128). Its 8 counts all take the transition's one order of place and
monitor (DESIGN CHOICE, log 6). -/
def declareLoss (p : Point) (order : CountOrder) (live : Channel) (s : State) : State :=
  let s1 := modMeter p (fun m => { m with loss := .declared live, clearRun := 0 }) s
  let s2 := Nat.repeat (takeCount p order true) Config.channelLossCounts s1
  markDegraded p (setFaultLatch p (countFault .chloss p (presentPoint .channelLoss p true s2)))

/-- The run count of a channel. -/
def Meter.run (m : Meter) (c : Channel) : Nat :=
  match c with
  | .a => m.runA
  | .b => m.runB

/-- The transition raised a channel's run count to 16. -/
def runReached (c : Channel) (before after : Meter) : Bool :=
  before.run c != Config.channelLossRun && after.run c == Config.channelLossRun

/-- A valid forward cycle: it arrives at 00 from +3 through four forward steps in a row (R130). -/
def validCycle (before after : Meter) : Bool :=
  classify before.pair after.pair == .forward && after.pair == pairZero && before.progress == .at 3
    && after.forwardRun == 4

/-- The clear run after a transition (R130). -/
def nextClearRun (before after : Meter) : Nat :=
  if validCycle before after then before.clearRun + 1
  else if classify before.pair after.pair = .forward ∧ after.progress ≠ .abandoned then before.clearRun
  else 0

def Channel.other (c : Channel) : Channel :=
  match c with
  | .a => .b
  | .b => .a

/-- The channel-loss state after a transition from the meter `before` to the meter `after` (R128 to R130). -/
def followLoss (p : Point) (order : CountOrder) (before after : Meter) (s : State) : State :=
  match before.loss with
  | .normal =>
    if runReached .a before after then declareLoss p order .a s
    else if runReached .b before after then declareLoss p order .b s
    else s
  | .declared live =>
    if nextClearRun before after = Config.channelClearRun then
      presentPoint .channelLoss p false
        (modMeter p (fun m => { m with loss := .normal, clearRun := 0, runA := 0, runB := 0 }) s)
    else
      modMeter p
        (fun m =>
          { m with
            clearRun := nextClearRun before after
            loss := if runReached live.other before after then .declared live.other else .declared live })
        s

/-! ### One transition -/

/-- The count of the decoder or of the degraded rule, where the transition gives one. -/
def countTransition (p : Point) (order : CountOrder) (count : Option Bool) (s : State) : State :=
  match count with
  | some forward => takeCount p order forward s
  | none => s

/-- A phase error is one PHASE count (R125). -/
def countPhase (p : Point) (t : Turn) (s : State) : State := if t = .phaseError then countFault .phase p s else s

/-- A transition of a fitted point's pair, in the order of log 24 (DESIGN CHOICE). -/
def transition (p : Point) (after : Pair) (order : CountOrder) (s : State) : State :=
  let m := (s.point p).meter
  let m' := decodeStep after m
  followLoss p order m m'
    (readNoiseCriterion p
      (countPhase p (classify m.pair after)
        (countTransition p order (countOf after m) (modMeter p (decodeStep after) s))))

end Sys2Proof.Machine
end

