-- ==== Sys2Proof/Machine/Requests.lean ====
section
/-! DEFINITION. Machine/Requests.lean: how a request is served (R188, R189), and the records its reply carries as
reports (R65, R110, R155, R160, R164, R174, R176, R181). -/

namespace Sys2Proof.Machine

open Sys2Proof

/-! ### Serving a request -/

/-- What a request's rule leaves: the state, and the status and data of the reply. -/
structure Done where
  state : State
  status : Status
  data : ReplyData
  deriving DecidableEq, Repr

/-- The request is taken and answered OK. -/
def done (d : ReplyData) (s : State) : Done := ⟨s, .ok, d⟩

/-- The request is taken, with or without a clamp. -/
def doneClamped (clamped : Bool) (d : ReplyData) (s : State) : Done := ⟨s, if clamped then .okClamped else .ok, d⟩

/-- The request is refused and stores nothing (R189). -/
def refuse (st : Status) (s : State) : Done := ⟨s, st, .none⟩

/-- The request is refused, with the data its rule names. -/
def refuseWith (st : Status) (d : ReplyData) (s : State) : Done := ⟨s, st, d⟩

/-- The rule of a request over its body; a body of the wrong length is refused MALFORMED (R194). -/
def onFields {α : Type} (b : Body α) (rule : α → State → Done) (s : State) : Done :=
  match b with
  | .wrongLength => refuse .malformed s
  | .fields f => rule f s

/-- The reply is built from the state the request left (R189). -/
def finish (kind : Byte) (x : Done) : State := reply kind x.status x.data x.state

/-- A request that broadcast does not admit (R188). -/
def serve {α : Type} (d : Dest) (kind : Byte) (b : Body α) (rule : α → State → Done) (s : State) : Out :=
  takeRequest d (fun s => finish kind (onFields b rule s)) s

/-- A request that broadcast admits: it is acted on in the same way, and by broadcast without a reply (R188). -/
def serveAll {α : Type} (d : Dest) (kind : Byte) (b : Body α) (rule : α → State → Done) (s : State) : Out :=
  .next (answer d kind (onFields b rule s).status (onFields b rule s).data (onFields b rule s).state)

/-! ### Reports -/

/-- The place of a serial in the sale queue, 0 for the head. -/
def State.salePosition (s : State) (serial : Nat) : Option Nat := s.auth.sales.findIdx? (· == serial)

/-- A record as SALE FETCH and AUTH READ part 1 carry it (R65, R160, R164). -/
def saleReport (s : State) (k : Slot) (a : AuthRecord) : SaleReport where
  slot := k
  record := a
  position := if a.isLive then none else s.salePosition a.serial
  length := s.auth.sales.length
  totalAmount := a.totalAmount
  totalCharge := a.totalCharge
  sat := a.flags.sat || decide (Config.maxReported < a.billed)

/-- The back-link of a record's bound DSL satellite (R91). -/
def backLinkOf (s : State) (a : AuthRecord) : Option Point :=
  if a.bound.contains (pointS a.lane) then (s.point (pointS a.lane)).ctl.delivery.bind Delivery.backLink else none

/-- Part 2 of an AUTH READ reply (R65). -/
def authPartTwo (s : State) (k : Slot) (a : AuthRecord) : AuthPartTwo where
  slot := k
  record := a
  timerSeconds :=
    match a.timer with
    | some t => wholeSeconds t.left
    | none => 0
  backLink := backLinkOf s a

/-- The line a point's figures are read from: that of its binding, or of its delivery record while that record occupies
its slot (R110). A record that was given the serial anew (R43) is not that record: it has the point neither bound nor
delivered (DEDUCED, log 56). -/
def reportLine (s : State) (p : Point) : Option Line :=
  match (s.point p).ctl.delivery with
  | some d =>
    match (s.slotOfSerial d.serial).bind s.slot with
    | some a => if p ∈ a.bound ∨ p ∈ a.delivered then some (a.lines.get d.line) else none
    | none => none
  | none => none

/-- POINT READ's data (R110, R181): the point (DESIGN CHOICE, log 59), and its record as a whole (DESIGN CHOICE,
log 62). -/
def pointReport (s : State) (p : Point) : PointReport where
  point := p
  ctl := (s.point p).ctl
  timerSeconds :=
    match (s.point p).ctl.timer with
    | some t => wholeSeconds t.left
    | none => 0
  fitted := s.fitted p
  lineVolume :=
    match reportLine s p with
    | some l => l.volume
    | none => 0
  lineAmount :=
    match reportLine s p with
    | some l => l.amount
    | none => 0
  latestRate := (s.point p).monitor.latest
  runVolume := (s.point p).ctl.proving.map fun r => volumeOf (s.point p).cal r.net

/-- POINT STATS' data (R155), with the point's settings as a whole (DESIGN CHOICE, log 62). -/
def statsReport (s : State) (p : Point) : StatsReport where
  active := (s.point p).monitor.active
  size := if (s.point p).monitor.active then some (s.point p).monitor.size else none
  latest := (s.point p).monitor.latest
  peak := (s.point p).monitor.peak
  minimum := (s.point p).monitor.minimum
  settle := (s.point p).monitor.settle
  reference := (s.point p).monitor.reference
  config := (s.point p).config

/-- STATUS' data (R174). -/
def statusReport (s : State) : StatusReport where
  lanes := allLanes.map (laneFlagged s.sup)
  siteAlarms := allSiteAlarms.map fun k => (s.sup.siteAlarms.get k).latched
  estopLatch := s.sup.estopLatch
  estopInput := s.sup.estopInput
  noticeBlock := s.sup.noticeBlock
  acquirerUp := s.link.acquirerUp
  notices := s.link.notices.length
  sales := s.auth.sales.length
  overflow := s.link.overflow

/-- COUNTERS READ's data (R176), with the point's alarm cells as a whole (DESIGN CHOICE, log 62). -/
def countersReport (s : State) (p : Point) : CountersReport where
  mode := s.site.reportMode
  snapshotTime := s.sup.snapshotTime
  snapshot := s.sup.snapshots[p.val]
  counters := s.counters p
  alarms := s.sup.pointAlarms[p.val]

/-- The proving run record with its run volume, as replies carry it (R181). -/
def runReport (s : State) (p : Point) : Option RunReport :=
  (s.point p).ctl.proving.map fun r => { run := r, volume := volumeOf (s.point p).cal r.net }

end Sys2Proof.Machine
end

