-- ==== Sys2Proof/Machine/Screening.lean ====
section
/-! DEFINITION. Machine/Screening.lean: the twelve steps of a card read (R46 to R49) with the profile check (R9 to
R13), the history step (R33 to R35), the prompts and odometer (R26, R28 to R31), the creation of a record (R14, R36,
R43, R48) and the online path (R49, R50). -/

namespace Sys2Proof.Machine

open Sys2Proof

/-! ### Profile check (R9 to R13) -/

/-- The entry's range holds the first ten digits of a card (R10). -/
def Profile.holds (e : Profile) (digits10 : Nat) : Bool := e.rangeLow ≤ digits10 && digits10 ≤ e.rangeHigh

/-- The first of the valid entries whose range holds the card (R10). -/
def selectEntry (x : Screening) (digits10 : Nat) : Option (Fin 64) :=
  (List.finRange 64).find? fun i => i.val < x.valid && (x.profiles[i.val]).holds digits10

inductive ProfileCheck where
  | declined (d : Decline)
  | selected (index : Fin 64)
  deriving DecidableEq, Repr

/-- The entry passes the lane (R12). -/
def tierPasses (e : Profile) (tier : Nat) : Bool := tier ≤ e.tier || e.allLanes

/-- Step 7 of screening (R9 to R12). -/
def profileCheck (x : Screening) (tier : Nat) (c : CardNumber) : ProfileCheck :=
  if x.valid = 0 then .declined .noTable
  else
    match selectEntry x c.prefix10 with
    | none => .declined .unknownRange
    | some i =>
      if !(x.profiles[i.val]).active then .declined .profileInactive
      else if tierPasses (x.profiles[i.val]) tier then .selected i
      else .declined .laneNotPermitted

/-- The products fitted on a lane (R13). -/
def LaneConfig.products (c : LaneConfig) : ProductSet := ⟨true, c.sFitted && c.sProduct == .rfr, c.dFitted⟩

/-! ### Card history (R33 to R35) -/

/-- A card's history entry is pinned while a live record names the card (R32). -/
def State.pinned (s : State) (c : CardNumber) : Bool := (s.slotOfCard c).isSome

def newEntry (c : CardNumber) (now : Time) : HistoryEntry where
  card := c
  auths := 0
  volume := 0
  lastOdometer := none
  failures := 0
  lastUse := now

/-- A list without the unpinned entry nearest its back (R34). -/
def dropStale (pinned : CardNumber → Bool) (l : List HistoryEntry) : List HistoryEntry :=
  (l.reverse.eraseP fun e => !pinned e.card).reverse

/-- The history step: the card's entry is found or made, and is at the front with its last-use time set (R33, R34). -/
def enterHistory (pinned : CardNumber → Bool) (c : CardNumber) (now : Time) (l : List HistoryEntry) :
    List HistoryEntry :=
  match l.find? fun e => e.card == c with
  | some _ => touchHistory c (fun e => { e with lastUse := now }) l
  | none => newEntry c now :: (if l.length < Config.historySize then l else dropStale pinned l)

/-- The entry of a card. -/
def State.historyOf (s : State) (c : CardNumber) : Option HistoryEntry :=
  s.screening.history.find? fun e => e.card == c

/-- A change to a card's entry where it stands. -/
def changeEntry (c : CardNumber) (f : HistoryEntry → HistoryEntry) (s : State) : State :=
  modHistory (fun l => l.map fun e => if e.card = c then f e else e) s

/-- Velocity and odometer lockout (R35). -/
def historyDecline (p : Profile) (e : HistoryEntry) : Option Decline :=
  if p.maxAuths ≠ 0 ∧ p.maxAuths ≤ e.auths then some .velocity
  else if p.dailyCap ≠ 0 ∧ p.dailyCap ≤ e.volume then some .velocity
  else if e.failures = 3 then some .odometer
  else none

/-! ### Prompts and odometer (R26, R30) -/

/-- The required set of a card read (R26). -/
def requiredSet (p : Profile) (allowed : ProductSet) : PromptSet :=
  { p.prompts with reeferHours := p.prompts.reeferHours && allowed.rfr }

/-- The required kinds the prompt list lacks (R26). -/
def missingSet (required : PromptSet) (l : List Prompt) : PromptSet where
  odometer := required.odometer && (findPrompt l .odometer).isNone
  unit := required.unit && (findPrompt l .unit).isNone
  driver := required.driver && (findPrompt l .driver).isNone
  reeferHours := required.reeferHours && (findPrompt l .reeferHours).isNone

def odometerAlone : PromptSet := ⟨true, false, false, false⟩

/-- The entered odometer of a prompt list. -/
def enteredOdometer (l : List Prompt) : Option Nat := (findPrompt l .odometer).map fun q => q.value.toNat

/-! ### Creation of a record (R14, R36, R43, R48) -/

/-- The serial after a serial: 1 follows 65,535 (R43). -/
def nextSerial (n : Nat) : Nat := if n < Config.maxCounter then n + 1 else 1

def State.serialTaken (s : State) (n : Nat) : Bool := allSlots.any fun k => (s.slot k).any fun r => r.serial == n

/-- The counter advanced past the serials that occupied slots hold; 24 slots need at most 25 advances (R43). -/
def freshSerial (s : State) : Nat → Nat → Nat
  | 0, n => n
  | tries + 1, n => if s.serialTaken (nextSerial n) then freshSerial s tries (nextSerial n) else nextSerial n

def State.newSerial (s : State) : Nat := freshSerial s 25 s.auth.serial

/-- The profile snapshot (R14). -/
def snapshotOf (p : Profile) (allowed : ProductSet) (volumeToday : Nat) : Snapshot where
  cls := p.cls
  allowed := allowed
  onlineMode := p.onlineMode
  onlineTimeout := p.onlineTimeout
  floorLimit := p.floorLimit
  defCap := p.defCap
  rfrCap := p.rfrCap
  capRemaining := if p.dailyCap = 0 then none else some (p.dailyCap - volumeToday)

def noFlags : RecordFlags := ⟨false, false, false, false, false, false, false⟩

/-- The requested amount as loaded (R48). -/
def requestedAmount (carried : Option Nat) (preAuth : Nat) : Nat :=
  match carried with
  | some a => min a preAuth
  | none => preAuth

/-- What a card read carries once its structure has passed (R46). -/
structure CardRead where
  lane : Byte
  card : CardNumber
  expiry : Expiry
  restriction : Nat
  amount : Option Nat
  prompts : List Prompt
  deriving DecidableEq, Repr

/-- What the steps before step 12 have found. -/
structure Screened where
  lane : Lane
  index : Fin 64
  profile : Profile
  allowed : ProductSet
  entry : HistoryEntry
  deriving DecidableEq, Repr

/-- A new record (R48), before it enters a state: AWAIT_ONLINE with its timer. -/
def newRecord (serial : Nat) (now : Time) (r : CardRead) (x : Screened) : AuthRecord where
  serial := serial
  state := .awaitOnline
  lane := x.lane
  card := r.card
  expiry := r.expiry
  profile := x.index.val
  snapshot := snapshotOf x.profile x.allowed x.entry.volume
  requested := requestedAmount r.amount x.profile.preAuth
  hold := none
  flags := noFlags
  reference := none
  prompts := r.prompts
  onlineLimit := none
  timer := some ⟨.online, secondTicks x.profile.onlineTimeout⟩
  lines := ⟨blankLine, blankLine, blankLine⟩
  bound := []
  delivered := []
  deliveries := []
  created := now
  firstFlow := none
  settledAt := none
  endReason := none

/-- The change an acceptance makes to the card's entry (R31, R36). -/
def acceptEntry (required : PromptSet) (odometer : Option Nat) (e : HistoryEntry) : HistoryEntry :=
  { e with
    auths := min (e.auths + 1) 15
    lastOdometer := if required.odometer then odometer.or e.lastOdometer else e.lastOdometer }

/-! ### Online path (R49, R50) -/

/-- The courses of step 12. -/
inductive OnlinePath where
  | await
  | armed (standin : Bool)
  | offline
  deriving DecidableEq, Repr

/-- The table of R49. -/
def onlinePath (mode : OnlineMode) (floor : Nat) (up : Bool) : OnlinePath :=
  match mode with
  | .alwaysOnline => if up then .await else .offline
  | .onlinePreferred => if up then .await else if 0 < floor then .armed true else .offline
  | .offlineOnly => .armed false

/-- The local hold: the requested amount, at most the floor limit (R49, R50). -/
def AuthRecord.localHold (a : AuthRecord) : Nat := min a.requested a.snapshot.floorLimit

/-- The record with its local hold, as a stand-in or not; its online wait is over. -/
def AuthRecord.holdLocally (standin : Bool) (a : AuthRecord) : AuthRecord :=
  { a with state := .armed, timer := none, hold := some a.localHold, flags := { a.flags with standin := standin } }

/-- The expiry path of an online wait (R50): stand-in, or the record is freed. AUTH_RESULT(STANDIN) is queued before the
notices of the bindings made on entering ARMED (DEDUCED, log 67). -/
def expireOnline (k : Slot) (s : State) : State :=
  match s.slot k with
  | none => s
  | some a =>
    if a.snapshot.onlineMode = .onlinePreferred ∧ 0 < a.snapshot.floorLimit then
      enterArmed k
        (pushNotice (.authResult a.serial a.lane .standin a.localHold)
          (modSlot k (AuthRecord.holdLocally true) s))
    else freeWith k .declinedTimeout s

/-! ### The screening order -/

def declined (d : Decline) (s : State) : Done := done (.declined d none) s

/-- Step 12: the online path, and the record with the history change (R36, R48, R49). The reply of a record ARMED at once
names ARMED whatever then binds (DEDUCED, log 16); it carries the record as a whole, as it stood before its arming timer
(DESIGN CHOICE, log 62). -/
def stepTwelve (r : CardRead) (x : Screened) (s : State) : Done :=
  match onlinePath x.profile.onlineMode x.profile.floorLimit s.link.acquirerUp with
  | .offline => declined .offline s
  | path =>
    match allSlots.find? fun k => (s.slot k).isNone with
    | none => refuse .tableFull s
    | some k =>
      let serial := s.newSerial
      let a := newRecord serial s.now r x
      let s1 : State := { s with auth := { s.auth with serial := serial } }
      let s2 := changeEntry r.card (acceptEntry (requiredSet x.profile x.allowed) (enteredOdometer r.prompts)) s1
      match path with
      | .armed standin =>
        done (.accepted ⟨k, a.holdLocally standin, .armed⟩) (enterArmed k (setSlot k (some (a.holdLocally standin)) s2))
      | _ => done (.accepted ⟨k, a, .awaitOnline⟩) (setSlot k (some a) s2)

/-- A failed reading is counted (R30). -/
def oneMoreFailure (e : HistoryEntry) : HistoryEntry := { e with failures := e.failures + 1 }

/-- Step 11: prompts, then the odometer (R26, R30). -/
def stepEleven (r : CardRead) (x : Screened) (s : State) : Done :=
  let required := requiredSet x.profile x.allowed
  let missing := missingSet required r.prompts
  if !missing.isEmpty then done (.promptNeeded missing (3 - x.entry.failures)) s
  else if required.odometer
      && !readingPasses x.profile.predicate x.profile.window ((enteredOdometer r.prompts).getD 0) x.entry.lastOdometer then
    let s1 := changeEntry r.card oneMoreFailure s
    if x.entry.failures + 1 = 3 then declined .odometer s1
    else done (.promptNeeded odometerAlone (3 - (x.entry.failures + 1))) s1
  else stepTwelve r x s

/-- Step 10: the history step, velocity and lockout (R33 to R35). -/
def stepTen (r : CardRead) (l : Lane) (i : Fin 64) (allowed : ProductSet) (s : State) : Done :=
  let s1 := modHistory (enterHistory s.pinned r.card s.now) s
  let e := (s1.historyOf r.card).getD (newEntry r.card s.now)
  let p := s.screening.profiles[i.val]
  match historyDecline p e with
  | some d => declined d s1
  | none => stepEleven r ⟨l, i, p, allowed, e⟩ s1

/-- The card's format passes step 4 (R47). -/
def formatOk (r : CardRead) : Bool :=
  r.card.inRange && r.card.value != 0 && 1 ≤ r.expiry.month && r.expiry.month ≤ 12 && r.card.checkDigitOk

/-- Steps 4 to 9 (R47). -/
def stepFour (r : CardRead) (l : Lane) (s : State) : Done :=
  if !formatOk r then declined .badCard s
  else if r.expiry.past s.clock.business then declined .expired s
  else if hotMember s.screening.hotList r.card then declined .hotCard s
  else
    match profileCheck s.screening (s.lane l).tier r.card with
    | .declined d => declined d s
    | .selected i =>
      let allowed :=
        ((s.screening.profiles[i.val]).products.inter (restrictionSet r.restriction)).inter (s.lane l).products
      if allowed.isEmpty then declined .product s
      else
        match (s.slotOfCard r.card).bind s.slot with
        | some a => done (.declined .cardInUse (some a.lane)) s
        | none => stepTen r l i allowed s

/-- Steps 1 to 3 (R46). -/
def stepOne (r : CardRead) (s : State) : Done :=
  if s.sup.estopLatch then refuse .siteStopped s
  else
    match readLane r.lane with
    | none => refuse .outOfRange s
    | some l =>
      if !(s.lane l).enabled then refuse .wrongState s
      else
        match (s.liveSlot l).bind s.slot with
        | some a => refuseWith .laneBusy (.laneBusy a.serial a.state) s
        | none =>
          if allSlots.all fun k => (s.slot k).isSome then
            refuseWith .tableFull (.settledCount s.settledCount) s
          else stepFour r l s

/-- The structure of a card read: card number, expiry, restriction code and presence byte (R46). -/
def readCardStructure (f : CardPresentedF) : Option (CardNumber × Expiry × Bool) :=
  match readCard f.card, readExpiry f.expiry, readYesNo f.amountPresent with
  | some c, some e, some present => if f.restriction.toNat ≤ 3 then some (c, e, present) else none
  | _, _, _ => none

/-- A carried amount outside 1 to 999,999 (R46); the bytes of an amount not carried are not checked (DESIGN CHOICE, log
19). -/
def amountOutOfRange (present : Bool) (amount : W32) : Bool :=
  present && (amount.toNat < 1 || Config.maxMoney < amount.toNat)

/-- CARD PRESENTED (R25, R46). -/
def screenCard (f : CardPresentedF) (s : State) : Done :=
  match readCardStructure f with
  | none => refuse .malformed s
  | some (c, e, present) =>
    if amountOutOfRange present f.amount then refuse .outOfRange s
    else
      match checkPrompts f.prompts with
      | .malformed => refuse .malformed s
      | .outOfRange k => refuseWith .outOfRange (.promptKind k) s
      | .accepted l =>
        stepOne ⟨f.lane, c, e, f.restriction.toNat, if present then some f.amount.toNat else none, l⟩ s

end Sys2Proof.Machine
end

