-- ==== Sys2Proof/Machine/Restart.lean ====
section
/-! DEFINITION. Machine/Restart.lean: cold start and warm restart (R64, R111, R120, R142, R143, R166, R167, R171,
R175, R177, R186, R187, R190), in the order of log 28 (DESIGN CHOICE). -/

namespace Sys2Proof.Machine

open Sys2Proof

/-! ### The points' deliveries and runs -/

/-- The end reason a restart gives a delivery not yet FINISHED (R111). -/
def restartReason (c : RestartCause) : EndReason :=
  match c with
  | .cold => .powerFail
  | .resetRequest | .brownOut => .reset

/-- The end reason a restart gives a record it settles (R64). -/
def restartEnd (c : RestartCause) : RecordEnd :=
  match c with
  | .cold => .powerFail
  | .resetRequest | .brownOut => .reset

/-- A proving run that is not totalised raises the totaliser by its run volume; the run is discarded (R186). -/
def restartRun (p : Point) (s : State) : State :=
  match (s.point p).ctl.proving with
  | some r =>
    modCtl p (fun c => { c with proving := none })
      (if r.totalised then s else raiseTotaliser p (s.runVolume p) s)
  | none => s

/-- A delivery that is not final is merged: line, totaliser and release, and no more (R111 step 1). -/
def restartMerge (c : RestartCause) (p : Point) (s : State) : State :=
  match (s.point p).ctl.delivery, s.boundSlot p with
  | some d, some k =>
    if d.final then s
    else
      let v := volumeOf (s.point p).cal d.net
      let reason := d.endReason.getD (restartReason c)
      modSlot k (AuthRecord.release p (deliveryEntry p d v reason))
        (modCtl p (releaseRecord v reason)
          (raiseTotaliser p v (modSlot k (AuthRecord.mergePoint s.site d.line p v) s)))
  | _, _ => s

/-- The merge a restart makes at a point finds an overrun (R78, R171). -/
def restartOverrun (before after : State) (p : Point) : Bool :=
  match (before.point p).ctl.delivery, before.boundSlot p with
  | some d, some k => !d.final && after.overrunFound k d.line p
  | _, _ => false

/-- The merges of a restart in ascending point number, with the points whose overrun exceeds the tolerance. -/
def restartMerges (c : RestartCause) (s : State) : State × List Point :=
  allPoints.foldl
    (fun x p =>
      let t := restartMerge c p x.1
      (t, if restartOverrun x.1 t p then x.2 ++ [p] else x.2))
    (s, [])

/-! ### The records (R64, R161) -/

/-- A slot joins a list ordered by time created, then by slot. -/
def insertByCreated (s : State) (k : Slot) : List Slot → List Slot
  | [] => [k]
  | j :: l =>
    match s.slot k, s.slot j with
    | some a, some b => if a.created.before b.created then k :: j :: l else j :: insertByCreated s k l
    | _, _ => j :: insertByCreated s k l

/-- The slots a restart settles, in the order in which they settle (R64, R161). -/
def restartSettled (s : State) : List Slot :=
  (allSlots.filter fun k => (s.slot k).any fun a => a.state == .delivering || a.state == .idleOpen).foldl
    (fun l k => insertByCreated s k l) []

/-- The slots a restart frees (R64). -/
def restartFreed (s : State) : List Slot :=
  allSlots.filter fun k => (s.slot k).any fun a => a.state == .awaitOnline || a.state == .armed

/-- The live records at a restart: freed without a notice, or settled in order with the restart's end reason, whatever
CLOSING loaded (R64, R161). -/
def restartRecords (c : RestartCause) (s : State) : State :=
  (restartSettled s).foldl (fun t k => settleSilently k (restartEnd c) t)
    ((restartFreed s).foldl (fun t k => freeSlot k t) s)

/-! ### The blocks -/

/-- A point as a restart leaves it (R111 steps 2 and 3, R142, R143). -/
def restartPoint (nozzle : Bool) (pair : Pair) (u : PointUnit) : PointUnit :=
  { u with
    ctl :=
      { resetPointRecord with
        state := if u.ctl.faultLatch then .outOfService else .idle
        nozzle := if nozzle then .lifted else .hung
        faultLatch := u.ctl.faultLatch
        delivery := u.ctl.delivery }
    meter := resetMeter pair
    monitor := resetMonitor
    inputPair := pair }

def restartPoints (i : Inputs) (s : State) : State :=
  { s with points := Vector.ofFn fun p => restartPoint (i.lifted[p.val]) (i.pairs[p.val]) (s.points[p.val]) }

def restartPumps (i : Inputs) (s : State) : State :=
  { s with pumps := ⟨resetPump (i.ready[0]), resetPump (i.ready[1]), resetPump (i.ready[2])⟩ }

/-- An alarm cell with its flag and notified bit clear; mask and edge select are kept (R171, R172). -/
def clearCell (c : AlarmCell) : AlarmCell := { c with latched := false, notified := false }

def clearPointAlarms (a : PointAlarms) : PointAlarms :=
  ⟨clearCell a.channelLoss, clearCell a.meterNoise, clearCell a.reverseFlow, clearCell a.surge, clearCell a.flowDrop,
    clearCell a.unauthFlow, clearCell a.overrun, clearCell a.counterFull⟩

def clearSiteAlarms (a : SiteAlarms) : SiteAlarms :=
  ⟨clearCell a.estop, clearCell a.calEnabled, clearCell a.pumpFailA, clearCell a.pumpFailB, clearCell a.pumpFailC⟩

/-- The supervisor as a restart leaves it, before the inputs present their edges (R167, R171, R175, R177). -/
def restartSupervisor (i : Inputs) (site : SiteConfig) (x : Supervisor) : Supervisor where
  estopInput := i.estop
  estopLatch := false
  noticeBlock := false
  pointAlarms := x.pointAlarms.map clearPointAlarms
  siteAlarms := clearSiteAlarms x.siteAlarms
  counters := Vector.replicate 18 zeroCounters
  snapshots := Vector.replicate 18 zeroCounters
  snapshotTime := none
  reportTimer := if site.reportMode = .auto then some (secondTicks site.reportInterval) else none

/-- The link as a restart leaves it: straps read, receiver in HUNT, notices emptied, ACQUIRER STATE UP (R51, R187,
R190). -/
def restartLink (i : Inputs) : Link where
  receiver := .hunt
  gap := 0
  station := i.address
  rate := i.rate
  pinAddress := i.address
  pinRate := i.rate
  reply := none
  notices := []
  overflow := false
  lastTaken := none
  acquirerUp := true

def restartBlocks (i : Inputs) (s : State) : State :=
  restartPumps i
    (restartPoints i
      { s with
        sup := restartSupervisor i s.site s.sup
        cal := { s.cal with enabled := i.calEn }
        link := restartLink i })

/-! ### The notices of a restart (R166, R169, R171) -/

def announceSerial (n : Nat) (s : State) : State :=
  match (s.slotOfSerial n).bind s.slot with
  | some a => announceSale a s
  | none => s

/-- An asserted ESTOP input read at a restart: an assertion edge with the latch clear; every valve, pump and record is
stopped already (R120, R167). -/
def restartEstop (i : Inputs) (s : State) : State :=
  if i.estop then presentEstop true 0 { s with sup := { s.sup with estopLatch := true } } else s

def restartCalEn (i : Inputs) (s : State) : State := if i.calEn then presentSite .calEnabled true s else s

/-- The whole of a restart. -/
def restart (c : RestartCause) (i : Inputs) (s : State) : State :=
  let s1 := allPoints.foldl (fun t p => restartRun p t) s
  let (s2, overruns) := restartMerges c s1
  let settled := (restartSettled s2).length
  let freed := (restartFreed s2).length
  let s3 := restartBlocks i (restartRecords c s2)
  let s4 := pushNotice (.restarted c settled freed) s3
  let s5 := s4.auth.sales.foldl (fun t n => announceSerial n t) s4
  let s6 := overruns.foldl (fun t p => presentPoint .overrun p true t) s5
  restartCalEn i (restartEstop i s6)

/-- The levels now standing at the part's inputs. -/
def State.inputs (s : State) : Inputs where
  address := s.link.pinAddress
  rate := s.link.pinRate
  lifted := s.points.map fun u => u.ctl.nozzle == .lifted
  pairs := s.points.map PointUnit.inputPair
  ready := #v[s.pumps.a.ready, s.pumps.b.ready, s.pumps.c.ready]
  estop := s.sup.estopInput
  calEn := s.cal.enabled

/-- COLD_START: the RTC has run on its battery for `elapsed` seconds (R192), then the restart (DEDUCED, log 8). -/
def execColdStart (elapsed : Nat) (i : Inputs) (s : State) : Out :=
  .next (restart .cold i { s with clock := { s.clock with rtc := s.clock.rtc.plusSeconds elapsed } })

/-- WARM_RESTART. -/
def execWarmRestart (cause : WarmCause) (i : Inputs) (s : State) : Out :=
  .next
    (restart
      (match cause with
        | .resetRequest => .resetRequest
        | .brownOut => .brownOut)
      i s)

end Sys2Proof.Machine
end

