-- ==== Sys2Proof/Machine/LinkCmds.lean ====
section
/-! DEFINITION. Machine/LinkCmds.lean: the link's own requests (R174, R188, R191 to R193) and the end of a frame or a
reply (R187). -/

namespace Sys2Proof.Machine

open Sys2Proof

/-- STATUS (R174): the overflow flag is cleared once the reply is built. -/
def statusRule (b : Body Unit) (s : State) : State :=
  match b with
  | .wrongLength => finish 0x01 (refuse .malformed s)
  | .fields _ =>
    let t := finish 0x01 (done (.status (statusReport s)) s)
    { t with link := { t.link with overflow := false } }

def execStatus (d : Dest) (b : Body Unit) (s : State) : Out := takeRequest d (statusRule b) s

/-- NEXT NOTICE (R191): TAKE or REPEAT. -/
def nextNoticeRule (option : Byte) (s : State) : Done :=
  match option.toNat with
  | 0 =>
    match s.link.notices with
    | [] => done (.notice 0 none) s
    | n :: rest => done (.notice rest.length (some n)) { s with link := { s.link with notices := rest, lastTaken := some n } }
  | 1 => done (.notice s.link.notices.length s.link.lastTaken) s
  | _ => refuse .malformed s

def execNextNotice (d : Dest) (b : Body Byte) (s : State) : Out := serve d 0x02 b nextNoticeRule s

/-- CLOCK SET (R192); the second begins at its start (DESIGN CHOICE, log 12). -/
def clockSetRule (f : TimeF) (s : State) : Done :=
  if (readDate f.date).valid && f.second.toNat ≤ 86399 then
    done (.clock s.clock.rtc ⟨readDate f.date, f.second.toNat⟩)
      { s with clock := { s.clock with rtc := ⟨readDate f.date, f.second.toNat⟩, phase := 0 } }
  else refuse .outOfRange s

def execClockSet (d : Dest) (b : Body TimeF) (s : State) : Out := serveAll d 0x39 b clockSetRule s

/-- UNKNOWN_REQUEST (R188): answered with no data, or dropped when broadcast. -/
def execUnknownRequest (d : Dest) (kind : Byte) (s : State) : Out :=
  takeRequest d (fun s => finish kind (refuse .unknownRequest s)) s

/-- RESET (R193): answered OK; the restart begins when the reply has left the line. -/
def execReset (d : Dest) (b : Body Unit) (s : State) : Out := serve d 0x7F b (fun _ s => done .none s) s

/-- The reply in flight is the OK reply to RESET (R193). -/
def State.resetPending (s : State) : Bool := s.link.reply.any fun r => r.kind == 0xFF && r.status == .ok

/-- REPLY_SENT (R187, R193): the receiver enters HUNT; after the OK reply to RESET a warm restart follows (DESIGN
CHOICE, log 7). -/
def execReplySent (s : State) : Out :=
  if s.link.receiver = .reply then
    if s.resetPending then .next (restart .resetRequest s.inputs s)
    else .next { s with link := { s.link with receiver := .hunt, reply := none } }
  else .next s

/-- The receiver abandons what it holds and is in HUNT (R187). -/
def State.toHunt (s : State) : State := { s with link := { s.link with receiver := .hunt, gap := 0 } }

/-- FRAME_GAP_TIMEOUT (R187). -/
def execFrameGapTimeout (s : State) : Out :=
  match s.link.receiver with
  | .frame _ => .next s.toHunt
  | .hunt | .reply => .next s

end Sys2Proof.Machine
end

