-- ==== Sys2Proof/Machine/AuthCmds.lean ====
section
/-! DEFINITION. Machine/AuthCmds.lean: the requests about authorization records: card read (R46), online result (R52,
R53, R163), ACQUIRER STATE (R51), CANCEL AUTH (R62), AUTH READ (R65), SALE FETCH (R164) and SALE CLEAR (R165). -/

namespace Sys2Proof.Machine

open Sys2Proof

/-- CARD PRESENTED (R46). -/
def execCardPresented (d : Dest) (b : Body CardPresentedF) (s : State) : Out := serve d 0x10 b screenCard s

/-! ### ONLINE RESULT -/

/-- A character of a reference: printable ASCII (R52). -/
def printable (b : Byte) : Bool := 0x20 ≤ b.toNat && b.toNat ≤ 0x7E

/-- An ONLINE RESULT whose structure has passed. -/
structure OnlineAnswer where
  approve : Bool
  amount : Nat
  reference : List Byte
  limit : Option Nat
  narrow : Option ProductSet
  deriving DecidableEq, Repr

/-- The narrowing set of an ONLINE RESULT: none where it is malformed, `some none` where it is absent. -/
def readNarrowing (present : Bool) (b : Byte) : Option (Option ProductSet) :=
  if present then (readProductSet b).map some else some none

/-- The structure of an ONLINE RESULT (R52). The bytes of a volume limit or a narrowing set that its presence byte marks
absent are not checked and not used (DESIGN CHOICE, log 19). -/
def readOnlineStructure (f : OnlineResultF) : Option OnlineAnswer :=
  match readApprove f.result, readYesNo f.limitPresent, readYesNo f.narrowPresent with
  | some approve, some limited, some narrowed =>
    match readNarrowing narrowed f.narrow with
    | some narrow =>
      if f.reference.length ≤ 12 && f.reference.all printable then
        some ⟨approve, f.amount.toNat, f.reference, if limited then some f.limit.toNat else none, narrow⟩
      else none
    | none => none
  | _, _, _ => none

/-- The values of an ONLINE RESULT are in range (R52; the limit's upper bound, DEDUCED, log 20). -/
def OnlineAnswer.inRange (x : OnlineAnswer) : Bool :=
  x.amount ≤ Config.maxMoney && x.limit.all fun v => 1 ≤ v && v ≤ Config.maxReported

/-- The allowed products narrowed by an approval. -/
def narrowed (narrow : Option ProductSet) (allowed : ProductSet) : ProductSet :=
  match narrow with
  | some set => allowed.inter set
  | none => allowed

/-- The record approved on time (R52). -/
def AuthRecord.approve (x : OnlineAnswer) (a : AuthRecord) : AuthRecord :=
  { a with
    hold := some (min x.amount a.requested)
    reference := some x.reference
    onlineLimit := x.limit
    snapshot := { a.snapshot with allowed := narrowed x.narrow a.snapshot.allowed } }

/-- A result for a record in AWAIT_ONLINE (R52). The reply names ARMED, though the points presented may have bound and the
record be DELIVERING when it is built (DEDUCED, log 16). -/
def onTimeResult (k : Slot) (a : AuthRecord) (x : OnlineAnswer) (s : State) : Done :=
  if x.approve && 0 < x.amount then
    if (narrowed x.narrow a.snapshot.allowed).isEmpty then done .declinedProduct (freeSlot k s)
    else
      done (.approved .armed (min x.amount a.requested) (narrowed x.narrow a.snapshot.allowed))
        (enterArmed k (setSlot k (some (a.approve x)) s))
  else done (.recordState none) (freeSlot k s)

/-- Each bound point of a record is given a soft stop, in ascending order (R53, R62, R96). -/
def softStopBound (a : AuthRecord) (reason : EndReason) (s : State) : State :=
  a.bound.foldl (fun t p => softStopPoint p reason t) s

/-- A stand-in confirmed by a late approval (R53). -/
def AuthRecord.confirm (reference : List Byte) (a : AuthRecord) : AuthRecord :=
  { a with reference := some reference, flags := { a.flags with standin := false, confirmed := true } }

/-- LATE_DECLINE is set. -/
def AuthRecord.declineLate (a : AuthRecord) : AuthRecord := { a with flags := { a.flags with lateDecline := true } }

/-- A late decline at a live stand-in, by its state (R53). -/
def lateDecline (k : Slot) (a : AuthRecord) (s : State) : State :=
  let s1 := modSlot k AuthRecord.declineLate s
  match a.state with
  | .armed => freeWith k .cancelledLateDecline s1
  | .delivering => softStopBound a .lateDecline (modSlot k (AuthRecord.close .lateDecline) s1)
  | .idleOpen => settle k .lateDecline s1
  | .awaitOnline | .settled => s1

/-- A result for a record that is not in AWAIT_ONLINE (R53, R163). -/
def lateResult (k : Slot) (a : AuthRecord) (x : OnlineAnswer) (s : State) : Done :=
  if a.isLive then
    if a.flags.lateDecline then refuse .late s
    else if a.flags.standin then
      if x.approve then refuse .late (modSlot k (AuthRecord.confirm x.reference) s) else refuse .late (lateDecline k a s)
    else refuse .wrongState s
  else if a.flags.standin && !x.approve then refuse .late (modSlot k AuthRecord.declineLate s)
  else refuse .late s

/-- ONLINE RESULT (R52). -/
def onlineResultRule (f : OnlineResultF) (s : State) : Done :=
  match readOnlineStructure f with
  | none => refuse .malformed s
  | some x =>
    if x.inRange then
      match s.slotOfSerial f.serial.toNat with
      | none => refuse .unknownAuth s
      | some k =>
        match s.slot k with
        | none => refuse .unknownAuth s
        | some a => if a.state = .awaitOnline then onTimeResult k a x s else lateResult k a x s
    else refuse .outOfRange s

def execOnlineResult (d : Dest) (b : Body OnlineResultF) (s : State) : Out := serve d 0x11 b onlineResultRule s

/-! ### ACQUIRER STATE -/

/-- The slots in AWAIT_ONLINE, ascending. -/
def awaitingSlots (s : State) : List Slot := allSlots.filter fun k => (s.slot k).any fun a => a.state == .awaitOnline

/-- ACQUIRER STATE (R51). -/
def acquirerStateRule (code : Byte) (s : State) : Done :=
  match readAcquirer code with
  | none => refuse .malformed s
  | some true => done (.acquirer true 0) { s with link := { s.link with acquirerUp := true } }
  | some false =>
    done (.acquirer false (awaitingSlots s).length)
      ((awaitingSlots s).foldl (fun t k => expireOnline k t) { s with link := { s.link with acquirerUp := false } })

def execAcquirerState (d : Dest) (b : Body Byte) (s : State) : Out := serveAll d 0x12 b acquirerStateRule s

/-! ### CANCEL AUTH -/

/-- CANCEL AUTH of the record in a slot, by its state (R62). -/
def cancelRecord (k : Slot) (a : AuthRecord) (s : State) : Done :=
  match a.state with
  | .awaitOnline | .armed => done (.recordState none) (freeSlot k s)
  | .delivering =>
    if a.flags.closing then done (.recordState (some .delivering)) s
    else
      done (.recordBound .delivering a.bound) (softStopBound a .cancel (modSlot k (AuthRecord.close .cancel) s))
  | .idleOpen => done (.recordState (some .settled)) (settle k .cancel s)
  | .settled => refuse .wrongState s

def cancelAuthRule (serial : W16) (s : State) : Done :=
  match s.slotOfSerial serial.toNat with
  | none => refuse .unknownAuth s
  | some k =>
    match s.slot k with
    | none => refuse .unknownAuth s
    | some a => cancelRecord k a s

def execCancelAuth (d : Dest) (b : Body W16) (s : State) : Out := serve d 0x13 b cancelAuthRule s

/-! ### AUTH READ -/

/-- One part of a record (R65). -/
def authPart (second : Bool) (k : Slot) (a : AuthRecord) (s : State) : ReplyData :=
  if second then .authPartTwo (authPartTwo s k a) else .sale (saleReport s k a)

/-- The part an AUTH READ names; true for part 2. -/
def readPart (b : Byte) : Option Bool :=
  match b.toNat with
  | 1 => some false
  | 2 => some true
  | _ => none

/-- AUTH READ by serial. -/
def authReadSerial (serial : Nat) (second : Bool) (s : State) : Done :=
  match s.slotOfSerial serial with
  | none => refuse .unknownAuth s
  | some k =>
    match s.slot k with
    | none => refuse .unknownAuth s
    | some a => done (authPart second k a s) s

/-- AUTH READ by slot. -/
def authReadSlot (slot : W16) (second : Bool) (s : State) : Done :=
  match readSlot slot with
  | none => refuse .outOfRange s
  | some k =>
    match s.slot k with
    | none => done .freeSlot s
    | some a => done (authPart second k a s) s

/-- AUTH READ (R65): marker 1 is a serial, 2 a slot. -/
def authReadRule (f : AuthReadF) (s : State) : Done :=
  match readPart f.part, f.marker.toNat with
  | some second, 1 => authReadSerial f.which.toNat second s
  | some second, 2 => authReadSlot f.which second s
  | _, _ => refuse .malformed s

def execAuthRead (d : Dest) (b : Body AuthReadF) (s : State) : Out := serve d 0x14 b authReadRule s

/-! ### Sales -/

/-- The sale a serial names (R164). A refusal UNKNOWN_AUTH or WRONG_STATE carries no queue length (DESIGN CHOICE, log
66). -/
def saleFetchSerial (serial : Nat) (s : State) : Done :=
  match s.slotOfSerial serial with
  | none => refuse .unknownAuth s
  | some k =>
    match s.slot k with
    | none => refuse .unknownAuth s
    | some a =>
      if a.isLive then refuseWith .wrongState (.recordState (some a.state)) s else done (.sale (saleReport s k a)) s

/-- The sale at the head of the queue (R164). -/
def saleFetchHead (s : State) : Done :=
  match s.auth.sales with
  | [] => refuseWith .notFound (.queueLength 0) s
  | n :: _ => saleFetchSerial n s

/-- SALE FETCH (R164). -/
def saleFetchRule (f : SaleFetchF) (s : State) : Done :=
  match readYesNo f.present with
  | none => refuse .malformed s
  | some true => saleFetchSerial f.serial.toNat s
  | some false => saleFetchHead s

def execSaleFetch (d : Dest) (b : Body SaleFetchF) (s : State) : Out := serve d 0x28 b saleFetchRule s

/-- A sale removed: its serial leaves the queue and its slot becomes FREE (R165). -/
def removeSale (k : Slot) (serial : Nat) (s : State) : State :=
  freeSlot k { s with auth := { s.auth with sales := s.auth.sales.filter (· != serial) } }

/-- SALE CLEAR (R165). A refusal UNKNOWN_AUTH or WRONG_STATE carries no queue length (DESIGN CHOICE, log 66). -/
def saleClearRule (serial : W16) (s : State) : Done :=
  match s.slotOfSerial serial.toNat with
  | none => refuse .unknownAuth s
  | some k =>
    match s.slot k with
    | none => refuse .unknownAuth s
    | some a =>
      if a.isLive then refuseWith .wrongState (.recordState (some a.state)) s
      else
        let t := removeSale k a.serial s
        done (.saleCleared a.serial t.auth.sales.length) t

def execSaleClear (d : Dest) (b : Body W16) (s : State) : Out := serve d 0x29 b saleClearRule s

end Sys2Proof.Machine
end

