-- ==== Sys2Proof/Machine/CardCmds.lean ====
section
/-! DEFINITION. Machine/CardCmds.lean: the requests of the card screening unit: profiles (R5 to R8), hot list (R17,
R19 to R23), card history (R40) and DAY CLOSE (R38). -/

namespace Sys2Proof.Machine

open Sys2Proof

/-! ### Profiles -/

/-- A profile index, 0 to 63. -/
def readIndex (b : Byte) : Option (Fin 64) := if h : b.toNat < 64 then some ⟨b.toNat, h⟩ else none

/-- The fields of a PROFILE WRITE whose structure has passed (R5 check 1), the online timeout clamped to 5 to 60 (R6).
-/
def readProfile (f : ProfileWriteF) : Option Profile :=
  match readProfileClass f.cls, readYesNo f.active, readYesNo f.allLanes, readProductSet f.products,
    readPromptSet f.prompts, readOnlineMode f.onlineMode with
  | some cls, some active, some allLanes, some products, some prompts, some onlineMode =>
    some
      { rangeLow := f.rangeLow.toNat, rangeHigh := f.rangeHigh.toNat, cls := cls, active := active,
        tier := f.tier.toNat, allLanes := allLanes, products := products, prompts := prompts,
        predicate := f.predicate.toNat, window := f.window.toNat, onlineMode := onlineMode,
        onlineTimeout := clamp 5 60 f.onlineTimeout.toNat, floorLimit := f.floorLimit.toNat,
        preAuth := f.preAuth.toNat, defCap := f.defCap.toNat, rfrCap := f.rfrCap.toNat,
        maxAuths := f.maxAuths.toNat, dailyCap := f.dailyCap.toNat }
  | _, _, _, _, _, _ => none

/-- The identifier of the first field out of range or in disagreement, in the order of R5 checks 3 and 4; none when all
pass. Where both disagreements of check 4 stand, range high is named, before the floor limit (DESIGN CHOICE, log 64).
Identifiers are places in the request's layout (R194). -/
def badProfileField (p : Profile) : Option Nat :=
  if 9999999999 < p.rangeLow then some 2
  else if 9999999999 < p.rangeHigh then some 3
  else if 3 < p.tier then some 6
  else if p.products.isEmpty then some 8
  else if 6 < p.predicate then some 10
  else if p.window < 1 || 9999 < p.window then some 11
  else if Config.maxMoney < p.floorLimit then some 14
  else if p.preAuth < 1 || Config.maxMoney < p.preAuth then some 15
  else if Config.maxMoney < p.defCap then some 16
  else if Config.maxMoney < p.rfrCap then some 17
  else if 15 < p.maxAuths then some 18
  else if Config.maxReported < p.dailyCap then some 19
  else if p.rangeHigh < p.rangeLow then some 3
  else if p.onlineMode == .offlineOnly && p.floorLimit == 0 then some 14
  else none

def storeProfile (i : Fin 64) (p : Profile) (s : State) : State :=
  { s with screening := { s.screening with profiles := s.screening.profiles.set i.val p } }

/-- The online timeout of a PROFILE WRITE is clamped (R6). -/
def timeoutClamped (f : ProfileWriteF) : Bool := f.onlineTimeout.toNat < 5 || 60 < f.onlineTimeout.toNat

/-- PROFILE WRITE (R5, R6); its reply carries the index and the entry as stored, without the valid count (DESIGN CHOICE,
log 47). -/
def profileWriteRule (f : ProfileWriteF) (s : State) : Done :=
  match readProfile f with
  | none => refuse .malformed s
  | some p =>
    match readIndex f.index with
    | none => refuseWith .outOfRange (.profileRefused f.index 1) s
    | some i =>
      match badProfileField p with
      | some n => refuseWith .outOfRange (.profileRefused f.index n) s
      | none => doneClamped (timeoutClamped f) (.profileStored i.val p) (storeProfile i p s)

def execProfileWrite (d : Dest) (b : Body ProfileWriteF) (s : State) : Out := serve d 0x30 b profileWriteRule s

/-- PROFILE READ (R7). The reply carries the index beside the entry and the valid count (DESIGN CHOICE, log 59). -/
def profileReadRule (index : Byte) (s : State) : Done :=
  match readIndex index with
  | none => refuse .outOfRange s
  | some i => done (.profile i.val (s.screening.profiles[i.val]) s.screening.valid) s

def execProfileRead (d : Dest) (b : Body Byte) (s : State) : Out := serve d 0x31 b profileReadRule s

/-- PROFILE COUNT (R8). -/
def profileCountRule (count : Byte) (s : State) : Done :=
  if count.toNat ≤ 64 then
    done (.profileCount count.toNat s.screening.valid)
      { s with screening := { s.screening with valid := count.toNat } }
  else refuse .outOfRange s

def execProfileCount (d : Dest) (b : Body Byte) (s : State) : Out := serve d 0x32 b profileCountRule s

/-! ### Hot list -/

/-- A request that carries one card number: structure, then digit count (R17, R40). -/
def onCard (rule : CardNumber → State → Done) (w : CardWire) (s : State) : Done :=
  match readCard w with
  | none => refuse .malformed s
  | some c => if c.inRange then rule c s else refuse .outOfRange s

def setHotList (l : List CardNumber) (s : State) : State := { s with screening := { s.screening with hotList := l } }

/-- The slot of the ARMED record of a card (R20). -/
def State.armedSlot (s : State) (c : CardNumber) : Option Slot :=
  allSlots.find? fun k => (s.slot k).any fun a => a.state == .armed && a.card == c

/-- The ARMED record of a number added is freed; the serial of the record, or 0 (R20). -/
def hotCancel (c : CardNumber) (s : State) : State × Nat :=
  match s.armedSlot c with
  | none => (s, 0)
  | some k =>
    match s.slot k with
    | none => (s, 0)
    | some a => (freeWith k .cancelledHotCard s, a.serial)

/-- The answer to an add, with the record cancelled by it (R19, R20). -/
def hotAnswer (c : CardNumber) (added : Bool) (s : State) : Done :=
  done (.hotAdded s.screening.hotList.length added (hotCancel c s).2) (hotCancel c s).1

/-- HOTLIST ADD (R19). -/
def hotlistAddRule (c : CardNumber) (s : State) : Done :=
  let l := s.screening.hotList
  match hotSearch l c with
  | .member _ => hotAnswer c false s
  | .absent i =>
    if l.length < Config.hotListSize then hotAnswer c true (setHotList (l.take i ++ c :: l.drop i) s)
    else refuseWith .listFull (.hotCount l.length) s

def execHotlistAdd (d : Dest) (b : Body CardWire) (s : State) : Out := serve d 0x33 b (onCard hotlistAddRule) s

/-- HOTLIST REMOVE (R21). -/
def hotlistRemoveRule (c : CardNumber) (s : State) : Done :=
  let l := s.screening.hotList
  match hotSearch l c with
  | .member i =>
    let t := setHotList (l.eraseIdx i) s
    done (.hotCount t.screening.hotList.length) t
  | .absent _ => refuseWith .notFound (.hotCount l.length) s

def execHotlistRemove (d : Dest) (b : Body CardWire) (s : State) : Out := serve d 0x34 b (onCard hotlistRemoveRule) s

/-- HOTLIST CLEAR (R22). -/
def hotlistClearRule (_ : Unit) (s : State) : Done := done (.hotCleared s.screening.hotList.length 0) (setHotList [] s)

def execHotlistClear (d : Dest) (b : Body Unit) (s : State) : Out := serve d 0x35 b hotlistClearRule s

/-- HOTLIST QUERY (R23). -/
def hotlistQueryRule (c : CardNumber) (s : State) : Done :=
  done (.hotMember s.screening.hotList.length (hotMember s.screening.hotList c)) s

def execHotlistQuery (d : Dest) (b : Body CardWire) (s : State) : Out := serve d 0x36 b (onCard hotlistQueryRule) s

/-! ### Card history and business day -/

/-- The serial of a card's live record, 0 for none (R40). -/
def State.liveSerialOf (s : State) (c : CardNumber) : Nat :=
  match (s.slotOfCard c).bind s.slot with
  | some a => a.serial
  | none => 0

/-- HISTORY READ (R40). -/
def historyReadRule (c : CardNumber) (s : State) : Done :=
  let l := s.screening.history
  match l.findIdx? (fun e => e.card == c), s.historyOf c with
  | some i, some e =>
    done
      (.history
        { entry := e, pinned := s.pinned c, serial := s.liveSerialOf c, position := i, size := l.length,
          business := s.clock.business })
      s
  | _, _ => refuseWith .notFound (.historyMissing l.length s.clock.business) s

def execHistoryRead (d : Dest) (b : Body CardWire) (s : State) : Out := serve d 0x37 b (onCard historyReadRule) s

/-- The daily counts of an entry set to 0 (R38). -/
def closeDay (e : HistoryEntry) : HistoryEntry := { e with auths := 0, volume := 0, failures := 0 }

/-- DAY CLOSE (R38). -/
def dayCloseRule (f : DateF) (s : State) : Done :=
  if (readDate f).valid && s.clock.business.before (readDate f) then
    if s.liveCount = 0 then
      done (.dayClosed (readDate f) s.screening.history.length)
        (modHistory (List.map closeDay) { s with clock := { s.clock with business := readDate f } })
    else refuseWith .wrongState (.liveCount s.liveCount) s
  else refuse .outOfRange s

def execDayClose (d : Dest) (b : Body DateF) (s : State) : Out := serveAll d 0x38 b dayCloseRule s

end Sys2Proof.Machine
end

