-- ==== Sys2Proof/Machine/PointCmds.lean ====
section
/-! DEFINITION. Machine/PointCmds.lean: the requests about fuelling points: POINT READ (R110), POINT STATS (R155),
STOP POINT (R94), SUSPEND POINT (R98), RESUME POINT (R99), FAULT CLEAR (R107) and TOTALS READ (R141). -/

namespace Sys2Proof.Machine

open Sys2Proof

/-- A request whose first check is its point number, 1 to 18. -/
def onPoint (rule : Point → State → Done) (b : Byte) (s : State) : Done :=
  match readPoint b with
  | none => refuse .outOfRange s
  | some p => rule p s

/-- POINT READ (R110). -/
def pointReadRule (p : Point) (s : State) : Done := done (.point (pointReport s p)) s

def execPointRead (d : Dest) (b : Body Byte) (s : State) : Out := serve d 0x20 b (onPoint pointReadRule) s

/-- The peak and minimum cleared (R155). -/
def clearRates (m : Monitor) : Monitor := { m with peak := 0, minimum := Config.noRate }

/-- POINT STATS (R155): the reply's values are taken before the clear. -/
def pointStatsRule (f : PointOptionF) (s : State) : Done :=
  match readYesNo f.option with
  | none => refuse .malformed s
  | some clear =>
    match readPoint f.point with
    | none => refuse .outOfRange s
    | some p => done (.stats (statsReport s p)) (if clear then modMonitor p clearRates s else s)

def execPointStats (d : Dest) (b : Body PointOptionF) (s : State) : Out := serve d 0x21 b pointStatsRule s

/-- The reply to an accepted STOP POINT: the point's state and valve stage after it. -/
def stopped (p : Point) (s : State) : Done := done (.pointStage (s.point p).ctl.state (s.point p).ctl.stage) s

/-- A refused STOP POINT carries the same data (R94). -/
def stopRefused (p : Point) (s : State) : Done :=
  refuseWith .wrongState (.pointStage (s.point p).ctl.state (s.point p).ctl.stage) s

/-- STOP POINT at a point, by its state and the mode (R94). -/
def stopAt (immediate : Bool) (p : Point) (s : State) : Done :=
  match (s.point p).ctl.state with
  | .softStart | .fast | .slowDown =>
    stopped p (if immediate then enterFinished p .hostStop s else enterStopping p .hostStop s)
  | .stopping => stopped p (if immediate then enterFinished p .hostStop s else s)
  | .suspended => stopped p (enterFinished p .hostStop s)
  | .idle | .calling | .waitPump | .finished | .proving | .outOfService => stopRefused p s

def stopPointRule (f : StopPointF) (s : State) : Done :=
  match readStopMode f.mode with
  | none => refuse .malformed s
  | some immediate => onPoint (stopAt immediate) f.point s

def execStopPoint (d : Dest) (b : Body StopPointF) (s : State) : Out := serve d 0x22 b stopPointRule s

/-- SUSPEND POINT (R98). -/
def suspendRule (p : Point) (s : State) : Done :=
  match (s.point p).ctl.state with
  | .softStart | .fast | .slowDown | .stopping => done .none (enterSuspended p .host s)
  | _ => refuse .wrongState s

def execSuspendPoint (d : Dest) (b : Body Byte) (s : State) : Out := serve d 0x23 b (onPoint suspendRule) s

/-- The reply that carries a point's state. -/
def inState (p : Point) (s : State) : Done := done (.pointState (s.point p).ctl.state) s

/-- RESUME POINT (R99). -/
def resumeRule (p : Point) (s : State) : Done :=
  if s.sup.estopLatch then refuse .siteStopped s
  else if (s.point p).ctl.state = .suspended then
    match (s.point p).ctl.stopPending with
    | some r => inState p (enterFinished p r s)
    | none => inState p (enterWaitPump p s)
  else refuse .wrongState s

def execResumePoint (d : Dest) (b : Body Byte) (s : State) : Out := serve d 0x24 b (onPoint resumeRule) s

/-- A point leaves OUT_OF_SERVICE with its latch clear: into CALLING when fitted and lifted, else IDLE (R107). -/
def returnToService (p : Point) (s : State) : State :=
  let t := modCtl p (fun c => { c with faultLatch := false, state := .idle }) s
  if s.fitted p && (s.point p).ctl.nozzle = .lifted then enterCalling p t else t

/-- FAULT CLEAR (R107). -/
def faultClearRule (p : Point) (s : State) : Done :=
  if (s.point p).ctl.state = .outOfService then
    if (s.point p).meter.loss = .normal then inState p (returnToService p s) else refuse .inputActive s
  else refuse .wrongState s

def execFaultClear (d : Dest) (b : Body Byte) (s : State) : Out := serve d 0x25 b (onPoint faultClearRule) s

/-- The totals of one point (R141). -/
def totalsEntry (s : State) (p : Point) : TotalsEntry := ⟨(s.point p).totaliser, (s.point p).cal, (s.point p).ctl.faultLatch⟩

/-- The points a TOTALS READ covers: up to 9 from the first (R141). -/
def totalsPoints (p : Point) : List Point := (allPoints.drop p.val).take 9

/-- TOTALS READ (R141). -/
def totalsReadRule (p : Point) (s : State) : Done :=
  done (.totals (pointNumber p) ((totalsPoints p).map (totalsEntry s))) s

def execTotalsRead (d : Dest) (b : Body Byte) (s : State) : Out := serve d 0x54 b (onPoint totalsReadRule) s

end Sys2Proof.Machine
end

