-- ==== Sys2Proof/Machine/SiteCmds.lean ====
section
/-! DEFINITION. Machine/SiteCmds.lean: PUMP RESET (R119), SITE RESUME (R170), ALARM MASK (R172), ALARM CLEAR (R173)
and COUNTERS READ (R176). -/

namespace Sys2Proof.Machine

open Sys2Proof

/-- PUMP RESET (R119). -/
def pumpResetRule (code : Byte) (s : State) : Done :=
  match readPump code with
  | none => refuse .outOfRange s
  | some k =>
    if (s.pump k).state = .failed then
      done (.pump .stopped) (modPump k (fun r => { r with state := .stopped, cause := none }) s)
    else refuseWith .wrongState (.pump (s.pump k).state) s

def execPumpReset (d : Dest) (b : Body Byte) (s : State) : Out := serve d 0x48 b pumpResetRule s

/-- SITE RESUME (R170): the latch is cleared with the input deasserted; the notice block in every case. -/
def siteResumeRule (_ : Unit) (s : State) : Done :=
  if s.sup.estopInput then
    refuseWith .inputActive (.estop s.sup.estopLatch true) { s with sup := { s.sup with noticeBlock := false } }
  else done (.estop false false) { s with sup := { s.sup with estopLatch := false, noticeBlock := false } }

def execSiteResume (d : Dest) (b : Body Unit) (s : State) : Out := serve d 0x49 b siteResumeRule s

/-! ### Alarms -/

/-- What an alarm request names (R172). -/
inductive AlarmSubject where
  | points (k : PointAlarm) (ps : List Point)
  | site (k : SiteAlarm)
  deriving DecidableEq, Repr

/-- The subject of an alarm request: 0 names all 18 points for a per-point kind, and is the only one for a site kind
(R172 check 2). -/
def readSubject (k : AlarmKind) (b : Byte) : Option AlarmSubject :=
  match k with
  | .point k => if b = 0 then some (.points k allPoints) else (readPoint b).map fun p => .points k [p]
  | .site k => if b = 0 then some (.site k) else none

/-- A change to the cells a subject names. -/
def modCells (x : AlarmSubject) (f : AlarmCell → AlarmCell) (s : State) : State :=
  match x with
  | .points k ps => ps.foldl (fun t p => modPointAlarms p (fun a => a.set k (f (a.get k))) t) s
  | .site k => modSiteAlarms (fun a => a.set k (f (a.get k))) s

/-- The flags set among the cells a subject names. -/
def flagCount (x : AlarmSubject) (s : State) : Nat :=
  match x with
  | .points k ps => ps.countP fun p => ((s.sup.pointAlarms[p.val]).get k).latched
  | .site k => if (s.sup.siteAlarms.get k).latched then 1 else 0

/-- A cell with a mask stored, and an edge select for a level kind (R172). -/
def maskCell (level mask : Bool) (edge : EdgeSelect) (c : AlarmCell) : AlarmCell :=
  { c with mask := mask, edge := if level then edge else c.edge }

/-- ALARM MASK (R172). The reply carries the kind and the subject beside the values stored (DESIGN CHOICE, log 59). -/
def alarmMaskRule (f : AlarmMaskF) (s : State) : Done :=
  match readAlarmKind f.kind, readYesNo f.mask, readEdge f.edge with
  | some k, some mask, some edge =>
    if edge = .riseFall && !k.isLevel then refuse .malformed s
    else
      match readSubject k f.subject with
      | none => refuse .outOfRange s
      | some x => done (.alarmMask k f.subject.toNat mask edge) (modCells x (maskCell k.isLevel mask edge) s)
  | _, _, _ => refuse .malformed s

def execAlarmMask (d : Dest) (b : Body AlarmMaskF) (s : State) : Out := serve d 0x4A b alarmMaskRule s

/-- An ALARM CLEAR of UNAUTH_FLOW zeroes the unauthorised counts it names (R134, R173). -/
def clearUnauthorised (x : AlarmSubject) (s : State) : State :=
  match x with
  | .points .unauthFlow ps => ps.foldl (fun t p => modMeter p (fun m => { m with unauthorised := 0 }) t) s
  | _ => s

/-- ALARM CLEAR (R173). -/
def alarmClearRule (f : AlarmClearF) (s : State) : Done :=
  match readAlarmKind f.kind with
  | none => refuse .malformed s
  | some k =>
    match readSubject k f.subject with
    | none => refuse .outOfRange s
    | some x => done (.flagsCleared (flagCount x s)) (clearUnauthorised x (modCells x clearCell s))

def execAlarmClear (d : Dest) (b : Body AlarmClearF) (s : State) : Out := serve d 0x4B b alarmClearRule s

/-- COUNTERS READ (R176). -/
def countersReadRule (f : PointOptionF) (s : State) : Done :=
  match readYesNo f.option with
  | none => refuse .malformed s
  | some snapshot =>
    match readPoint f.point with
    | none => refuse .outOfRange s
    | some p =>
      let t := if snapshot then takeSnapshot s else s
      done (.counters (countersReport t p)) t

def execCountersRead (d : Dest) (b : Body PointOptionF) (s : State) : Out := serve d 0x4C b countersReadRule s

end Sys2Proof.Machine
end

