-- ==== Sys2Proof/Machine/ConfigCmds.lean ====
section
/-! DEFINITION. Machine/ConfigCmds.lean: LANE CONFIG (R108), POINT CONFIG (R139, R154, R180) with the calibration
change (R179), PRODUCT CONFIG (R82) and SITE CONFIG (R55, R84, R109, R121, R177). -/

namespace Sys2Proof.Machine

open Sys2Proof

/-! ### LANE CONFIG -/

/-- The settings of a LANE CONFIG; none where a code is undefined (R108 check 1; an S product that is not DSL or RFR,
DEDUCED, log 22). -/
def readLaneSettings (f : LaneConfigF) : Option LaneConfig :=
  match readYesNo f.enabled, readYesNo f.sFitted, readSProduct f.sProduct, readYesNo f.dFitted with
  | some enabled, some sFitted, some sProduct, some dFitted => some ⟨enabled, f.tier.toNat, sFitted, sProduct, dFitted⟩
  | _, _, _, _ => none

/-- A controller whose point becomes unfitted (R108). -/
def unfitRecord (c : PointRecord) : PointRecord :=
  if c.state = .calling ∨ c.state = .finished then { c with state := .idle, finishReason := none, timer := none } else c

/-- The unit of a point whose fitting changes: its metering unit takes its restart values, with the pair now read
(R122, R142; DESIGN CHOICE, log 23). -/
def refit (fitted : Bool) (u : PointUnit) : PointUnit :=
  { u with ctl := if fitted then u.ctl else unfitRecord u.ctl, meter := resetMeter u.inputPair }

/-- The effect of stored lane settings at a point, from its fitting before and after (R108). -/
def followFitting (before after : Bool) (p : Point) (s : State) : State :=
  if before = after then s else modPoint p (refit after) s

def storeLane (l : Lane) (c : LaneConfig) (s : State) : State := { s with lanes := s.lanes.set l.val c }

/-- Stored lane settings, with their effect at S and D. -/
def applyLane (l : Lane) (c : LaneConfig) (s : State) : State :=
  followFitting (s.lane l).dFitted c.dFitted (pointD l)
    (followFitting (s.lane l).sFitted c.sFitted (pointS l) (storeLane l c s))

/-- A point of the lane is in PROVING. -/
def State.laneProving (s : State) (l : Lane) : Bool := (pointsOf l).any fun p => (s.point p).ctl.state == .proving

/-- LANE CONFIG (R108). The reply carries the lane beside its settings (DESIGN CHOICE, log 59). -/
def laneConfigRule (f : LaneConfigF) (s : State) : Done :=
  match readLaneSettings f with
  | none => refuse .malformed s
  | some c =>
    match readLane f.lane with
    | none => refuse .outOfRange s
    | some l =>
      if 3 < c.tier then refuse .outOfRange s
      else if (s.liveSlot l).isSome then refuse .laneBusy s
      else if s.laneProving l then refuse .wrongState s
      else done (.lane l c) (applyLane l c s)

def execLaneConfig (d : Dest) (b : Body LaneConfigF) (s : State) : Out := serve d 0x40 b laneConfigRule s

/-! ### Calibration change (R179) -/

/-- The store with one more change logged, newest first, the oldest of 32 replaced. -/
def CalStore.logChange (p : Point) (source : CalSource) (old new : Calibration) (now : Time) (c : CalStore) : CalStore :=
  { c with
    counter := bump c.counter
    log := (⟨bump c.counter, p, source, old, new, now⟩ :: c.log).take Config.calLogSize }

/-- A calibration change: record, counter, log entry and notice (R179). -/
def calibrate (p : Point) (source : CalSource) (new : Calibration) (s : State) : State :=
  let old := (s.point p).cal
  let s1 := modPoint p (fun u => { u with cal := new }) s
  let s2 : State := { s1 with cal := s1.cal.logChange p source old new s.now }
  pushNotice (.calChanged p s2.cal.counter source old new) s2

/-! ### POINT CONFIG -/

/-- The settings of a POINT CONFIG, clamped; none where a code is undefined (R139, R154). -/
def readPointSettings (f : PointConfigF) : Option PointConfig :=
  match readNoise f.noise, readYesNo f.surgeHold with
  | some noise, some surgeHold =>
    if f.window.toNat ≤ 3 then
      some
        { noise := noise, reverseAllowance := f.reverseAllowance.toNat, window := f.window.toNat,
          noFlowTime := clamp 5 120 f.noFlowTime.toNat, surgeCode := clamp 0 7 f.surgeCode.toNat, surgeHold := surgeHold }
    else none
  | _, _ => none

def pointClamped (f : PointConfigF) : Bool :=
  f.noFlowTime.toNat < 5 || 120 < f.noFlowTime.toNat || 7 < f.surgeCode.toNat

/-- The calibration record a POINT CONFIG carries. -/
def carriedCal (f : PointConfigF) : Calibration := ⟨f.p.toNat, readCorrection f.c⟩

/-- The identifier of a calibration field out of range (R180 check 1); P, field 8, where both are (DESIGN
CHOICE, log 60). -/
def badCalField (c : Calibration) : Option Nat :=
  if c.p < Config.minP || Config.maxP < c.p then some 8
  else if c.c < -Config.maxC || Config.maxC < c.c then some 9
  else none

def storePointConfig (p : Point) (c : PointConfig) (s : State) : State := modPoint p (fun u => { u with config := c }) s

/-- POINT CONFIG once its structure, point and calibration ranges have passed (R180 checks 2 and 3). OK carries the same
data as OK_CLAMPED (DESIGN CHOICE, log 58). -/
def configurePoint (f : PointConfigF) (p : Point) (c : PointConfig) (s : State) : Done :=
  let cal := carriedCal f
  let reply := doneClamped (pointClamped f) (.pointConfig p c cal)
  if cal = (s.point p).cal then reply (storePointConfig p c s)
  else if !s.cal.enabled then refuse .calLocked s
  else if s.isBound p || (s.point p).ctl.state = .proving then refuse .wrongState s
  else reply (calibrate p .pointConfig cal (storePointConfig p c s))

/-- POINT CONFIG (R139, R154, R180). -/
def pointConfigRule (f : PointConfigF) (s : State) : Done :=
  match readPointSettings f with
  | none => refuse .malformed s
  | some c =>
    match readPoint f.point with
    | none => refuse .outOfRange s
    | some p =>
      match badCalField (carriedCal f) with
      | some n => refuseWith .outOfRange (.field n) s
      | none => configurePoint f p c s

def execPointConfig (d : Dest) (b : Body PointConfigF) (s : State) : Out := serve d 0x41 b pointConfigRule s

/-! ### PRODUCT CONFIG -/

/-- The entry a PRODUCT CONFIG stores, its bands clamped (R82). -/
def carriedEntry (f : ProductConfigF) : ProductEntry where
  price := f.price.toNat
  startBand := clamp 100 2000 f.startBand.toNat
  slowDown := clamp 200 10000 f.slowDown.toNat
  closeAhead := clamp 0 1000 f.closeAhead.toNat
  softStop := clamp 50 1000 f.softStop.toNat
  tolerance := clamp 0 5000 f.tolerance.toNat

/-- A band was clamped. -/
def bandsClamped (f : ProductConfigF) : Bool :=
  (carriedEntry f).startBand != f.startBand.toNat || (carriedEntry f).slowDown != f.slowDown.toNat
    || (carriedEntry f).closeAhead != f.closeAhead.toNat || (carriedEntry f).softStop != f.softStop.toNat
    || (carriedEntry f).tolerance != f.tolerance.toNat

def storeProduct (r : Product) (e : ProductEntry) (s : State) : State :=
  { s with
    products :=
      match r with
      | .dsl => { s.products with dsl := e }
      | .rfr => { s.products with rfr := e }
      | .defl => { s.products with defl := e } }

/-- PRODUCT CONFIG (R82). The price is field 2 of its layout. The reply carries the product beside its entry (DESIGN
CHOICE, log 59). -/
def productConfigRule (f : ProductConfigF) (s : State) : Done :=
  match readProduct f.product with
  | none => refuse .malformed s
  | some r =>
    if f.price.toNat < 1 || 99999 < f.price.toNat then refuseWith .outOfRange (.field 2) s
    else doneClamped (bandsClamped f) (.product r (carriedEntry f)) (storeProduct r (carriedEntry f) s)

def execProductConfig (d : Dest) (b : Body ProductConfigF) (s : State) : Out := serve d 0x42 b productConfigRule s

/-! ### SITE CONFIG -/

/-- The settings of one pump, clamped; none where the ready-check code is undefined (R121). -/
def readPumpSettings (f : PumpSettingsF) : Option PumpSettings :=
  (readYesNo f.readyCheck).map fun check =>
    { readyCheck := check, spinUp := clamp 5 100 f.spinUp.toNat, readyWait := clamp 2 30 f.readyWait.toNat,
      runOn := clamp 0 120 f.runOn.toNat }

/-- The settings of a SITE CONFIG, clamped; none where a code is undefined (R121, R177). -/
def readSite (f : SiteConfigF) : Option SiteConfig :=
  match readPumpSettings f.pumpA, readPumpSettings f.pumpB, readPumpSettings f.pumpC, readReportMode f.reportMode with
  | some a, some b, some c, some mode =>
    some
      { armingTime := clamp 10 900 f.armingTime.toNat, idleCloseTime := clamp 10 600 f.idleCloseTime.toNat,
        deliveryMax := clamp 1000 2000000 f.deliveryMax.toNat, softStopTime := clamp 1 10 f.softStopTime.toNat,
        drainTime := clamp 1 10 f.drainTime.toNat, suspensionLimit := clamp 10 600 f.suspensionLimit.toNat,
        pumpA := a, pumpB := b, pumpC := c, reportMode := mode,
        reportInterval := clamp 60 3600 f.reportInterval.toNat }
  | _, _, _, _ => none

def pumpClamped (f : PumpSettingsF) (c : PumpSettings) : Bool :=
  c.spinUp != f.spinUp.toNat || c.readyWait != f.readyWait.toNat || c.runOn != f.runOn.toNat

/-- A setting was clamped. -/
def siteClamped (f : SiteConfigF) (c : SiteConfig) : Bool :=
  c.armingTime != f.armingTime.toNat || c.idleCloseTime != f.idleCloseTime.toNat || c.deliveryMax != f.deliveryMax.toNat
    || c.softStopTime != f.softStopTime.toNat || c.drainTime != f.drainTime.toNat
    || c.suspensionLimit != f.suspensionLimit.toNat || pumpClamped f.pumpA c.pumpA || pumpClamped f.pumpB c.pumpB
    || pumpClamped f.pumpC c.pumpC || c.reportInterval != f.reportInterval.toNat

/-- The interval timer after a SITE CONFIG: started by a change to AUTO, stopped by MANUAL, else as it runs (R177). -/
def followMode (before after : SiteConfig) (timer : Option Nat) : Option Nat :=
  match after.reportMode with
  | .manual => none
  | .auto => if before.reportMode = .manual then some (secondTicks after.reportInterval) else timer

/-- SITE CONFIG (R55, R84, R109, R121, R177). OK carries the same data as OK_CLAMPED (DESIGN CHOICE, log 58). -/
def siteConfigRule (f : SiteConfigF) (s : State) : Done :=
  match readSite f with
  | none => refuse .malformed s
  | some c =>
    doneClamped (siteClamped f c) (.site c)
      { s with site := c, sup := { s.sup with reportTimer := followMode s.site c s.sup.reportTimer } }

def execSiteConfig (d : Dest) (b : Body SiteConfigF) (s : State) : Out := serve d 0x43 b siteConfigRule s

end Sys2Proof.Machine
end

