-- ==== Sys2Proof/Machine/ProveCmds.lean ====
section
/-! DEFINITION. Machine/ProveCmds.lean: PROVE START (R182), PROVE STOP (R184), PROVE RESULT (R185) and CAL LOG READ
(R179). -/

namespace Sys2Proof.Machine

open Sys2Proof

/-- The run record a PROVE START loads (R182); the references are free values until loaded (DESIGN CHOICE, log 46),
within the cap of every reported volume (R2). -/
def newRun (p : Point) : ProvingRun where
  phase := .liftWait
  net := 0
  peak := 0
  startRef := min (Config.unloadedStartReference p) Config.maxReported
  stopRef := min (Config.unloadedStopReference p) Config.maxReported
  endCause := none
  measured := none
  totalised := false

/-- A point enters PROVING: LIFT_WAIT with its nozzle hung, else it waits for its pump at once (R182). -/
def startProving (p : Point) (s : State) : State :=
  let t :=
    modMeter p (fun m => { m with reverseFound := false })
      (modCtl p (fun c => { c with state := .proving, finishReason := none, timer := none, proving := some (newRun p) }) s)
  if (s.point p).ctl.nozzle = .hung then t else enterPumpWait p t

/-- The reply that carries a point's run record. -/
def withRun (p : Point) (s : State) : Done := done (.run (runReport s p)) s

/-- PROVE START (R182). -/
def proveStartRule (p : Point) (s : State) : Done :=
  if !s.cal.enabled then refuse .calLocked s
  else if s.sup.estopLatch then refuse .siteStopped s
  else if s.fitted p && ((s.point p).ctl.state = .idle || (s.point p).ctl.state = .calling) then
    match (s.liveSlot (laneOf p)).bind s.slot with
    | some a => refuseWith .laneBusy (.busySerial a.serial) s
    | none => withRun p (startProving p s)
  else refuse .wrongState s

def execProveStart (d : Dest) (b : Body Byte) (s : State) : Out := serve d 0x50 b (onPoint proveStartRule) s

/-- A point leaves PROVING: OUT_OF_SERVICE with its latch set, CALLING when lifted, else IDLE (R184, R185). -/
def leaveProving (p : Point) (s : State) : State :=
  let c := (s.point p).ctl
  let t := modCtl p (fun c => { c with state := .idle, proving := none, timer := none }) s
  if c.faultLatch then modCtl p outOfServiceRecord t
  else if c.nozzle = .lifted then enterCalling p t
  else t

/-- PROVE STOP at a run, by its phase (R184). -/
def stopRun (p : Point) (s : State) : State :=
  match s.provePhase p with
  | some .liftWait | some .pumpWait => enterProvingDrain p .hostStop s
  | some .slow | some .fast => enterProvingTail p .hostStop s
  | some .tail | some .drain => s
  | some .done => leaveProving p s
  | none => s

/-- PROVE STOP (R184). -/
def proveStopRule (p : Point) (s : State) : Done :=
  if (s.point p).ctl.state = .proving then withRun p (stopRun p s) else refuse .wrongState s

def execProveStop (d : Dest) (b : Body Byte) (s : State) : Out := serve d 0x51 b (onPoint proveStopRule) s

/-- N_meas of a run whose result may be taken: the point in PROVING at DONE, its fault latch clear, N_meas at least 1
(R185 check 3). -/
def usableCount (u : PointUnit) : Option Int :=
  if u.ctl.state = .proving && !u.ctl.faultLatch then
    match u.ctl.proving with
    | some r => if r.phase = .done then r.measured.filter fun n => 1 ≤ n else none
    | none => none
  else none

/-- PROVE RESULT at a point with its prover volume in range (R185). A reply with C' carries the run record too (R181), as it
stood in DONE when the request was taken (DESIGN CHOICE, log 55). R185 has the point leave PROVING in the action of the
calibration change; that CAL_CHANGED stands before the notices of a binding which a lifted point then makes is the
model's (DESIGN CHOICE, log 65). -/
def resultAt (prover : Nat) (p : Point) (s : State) : Done :=
  if !s.cal.enabled then refuse .calLocked s
  else
    match usableCount (s.point p) with
    | none => refuse .wrongState s
    | some n =>
      let c := correctionOf n.toNat (s.point p).cal.p prover
      let run := runReport s p
      if c < -Config.maxC || Config.maxC < c then refuseWith .outOfRange (.correction c run) s
      else
        let new : Calibration := ⟨(s.point p).cal.p, c⟩
        let t := leaveProving p (calibrate p .proveResult new s)
        done (.calibrated c new t.cal.counter run) t

/-- PROVE RESULT (R185). -/
def proveResultRule (f : ProveResultF) (s : State) : Done :=
  match readPoint f.point with
  | none => refuse .outOfRange s
  | some p =>
    if f.volume.toNat < 1000 || 2000000 < f.volume.toNat then refuse .outOfRange s
    else resultAt f.volume.toNat p s

def execProveResult (d : Dest) (b : Body ProveResultF) (s : State) : Out := serve d 0x52 b proveResultRule s

/-- CAL LOG READ (R179). -/
def calLogReadRule (position : Byte) (s : State) : Done :=
  if position.toNat ≤ 31 then
    done (.calLog s.cal.counter s.cal.log.length ((s.cal.log.drop position.toNat).take Config.calLogReply)) s
  else refuse .outOfRange s

def execCalLogRead (d : Dest) (b : Body Byte) (s : State) : Out := serve d 0x53 b calLogReadRule s

end Sys2Proof.Machine
end

