-- ==== Sys2Proof/Machine/EquipmentCmds.lean ====
section
/-! DEFINITION. Machine/EquipmentCmds.lean: the events of the island equipment: nozzles (R89, R102), meter inputs
(R123), no flow (R148), the ESTOP loop (R168, R169), CAL_EN (R178) and READY contacts (R114, R117). An event that
changes no level changes nothing (DEDUCED, log 5). -/

namespace Sys2Proof.Machine

open Sys2Proof

/-! ### Nozzles -/

def setNozzle (p : Point) (n : Nozzle) (s : State) : State := modCtl p (fun c => { c with nozzle := n }) s

/-- A lift at a fitted point, by its state (R89, R183). A run that came to DRAIN from LIFT_WAIT, its nozzle hung, can
meet a lift there; it loads the nozzle field alone, as in any other phase that R183 says a lift does not arise in
(DESIGN CHOICE, log 51). -/
def liftAt (p : Point) (s : State) : State :=
  match (s.point p).ctl.state with
  | .idle => enterCalling p s
  | .outOfService => pushNotice (.pointLiftOos p) s
  | .proving => if s.provePhase p = some .liftWait then enterPumpWait p s else s
  | _ => s

/-- NOZZLE_LIFT (R89); at an unfitted point the nozzle field alone changes (DESIGN CHOICE, log 23). -/
def execNozzleLift (p : Point) (s : State) : Out :=
  if (s.point p).ctl.nozzle = .lifted then .next s
  else if s.fitted p then .next (liftAt p (setNozzle p .lifted s))
  else .next (setNozzle p .lifted s)

/-- The point leaves its state, its delivery is given reason HANG_UP where it has none, its timer stops and its valve
closes (R101, R102). It leaves its pump's demand with its valve, before the merge: PUMP_EVENT(STOPPED) of a pump with
run-on time 0 stands before POINT_EVENT(FINAL) in the queue (DESIGN CHOICE, log 65). -/
def hangUpDelivery (p : Point) (s : State) : State :=
  closeValve p
    (modCtl p
      (fun c =>
        { c with
          state := .idle
          timer := none
          delivery := c.delivery.map fun d => { d with endReason := d.endReason.or (some .hangUp) } })
      s)

/-- The controller of a point that was bound at its hang-up, once merged (R102): no reason, reference or pending stop is
left. -/
def endBound (p : Point) (s : State) : State :=
  restPoint true p (modCtl p (fun c => { c with suspendCause := none, softReason := none, stopPending := none }) s)

/-- A hang-up in PROVING, by phase (R184). In LIFT_WAIT, where R184 says that none arises, it loads the nozzle field
alone (DESIGN CHOICE, log 51). -/
def hangUpRun (p : Point) (s : State) : State :=
  match s.provePhase p with
  | some .pumpWait | some .slow | some .fast | some .tail | some .drain => enterProvingDone p (some .hangUp) s
  | some .liftWait | some .done | none => s

/-- A hang-up at a fitted point, by its state (R102). -/
def hangUpAt (p : Point) (s : State) : State :=
  if s.isBound p then endBound p (mergeDelivery p (hangUpDelivery p s))
  else
    match (s.point p).ctl.state with
    | .calling | .finished => modCtl p (fun c => { c with state := .idle, finishReason := none, timer := none }) s
    | .proving => hangUpRun p s
    | _ => s

/-- HANG_UP (R102); at an unfitted point the nozzle field alone changes (DESIGN CHOICE, log 23). -/
def execHangUp (p : Point) (s : State) : Out :=
  if (s.point p).ctl.nozzle = .hung then .next s
  else if s.fitted p then .next (hangUpAt p (setNozzle p .hung s))
  else .next (setNozzle p .hung s)

/-! ### Meter inputs -/

def setInputPair (p : Point) (pair : Pair) (s : State) : State := modPoint p (fun u => { u with inputPair := pair }) s

/-- METER_TRANSITION (R122 to R134, R145 to R151): the inputs of an unfitted point are not decoded (R122). -/
def execMeterTransition (p : Point) (pair : Pair) (order : CountOrder) (s : State) : Out :=
  if s.fitted p && (s.point p).meter.pair ≠ pair then .next (transition p pair order (setInputPair p pair s))
  else .next (setInputPair p pair s)

/-- The no-flow cause at a point (R148, R184). -/
def noFlowCause (p : Point) (s : State) : State :=
  if (s.point p).ctl.state = .proving then closeRunFor p .noFlow s else closeFor p .noFlow s

/-- The window's T is held at its limit and the monitor is frozen (R148). -/
def freeze (m : Monitor) : Monitor := { m with frozen := true, ticks := m.noFlowLimit }

/-- T has reached the no-flow limit of the window under way, at an active monitor that is not frozen (R148). -/
def Monitor.limitReached (m : Monitor) : Bool := m.active && !m.frozen && decide (m.noFlowLimit ≤ m.ticks)

/-- NO_FLOW_LIMIT (R148), the cause before the count (DESIGN CHOICE, log 65). With the window completed first, T is 0
again and there is no no-flow (R152). -/
def execNoFlowLimit (p : Point) (s : State) : Out :=
  if (s.point p).monitor.limitReached then
    .next (countFault .noflow p (noFlowCause p (modMonitor p freeze s)))
  else .next s

/-! ### Emergency stop -/

/-- Every valve output is de-energised (R88, R168). -/
def closeAllValves (s : State) : State := allPoints.foldl (fun t p => setStage p .closed t) s

/-- A pump in STARTING, RUNNING or RUN_ON enters STOPPED with no run-on (R120). -/
def estopPump (r : PumpRecord) : PumpRecord :=
  match r.state with
  | .starting | .running | .runOn => { r with state := .stopped, timer := none }
  | .stopped | .failed => r

def estopPumps (s : State) : State := allPumps.foldl (fun t k => modPump k estopPump t) s

/-- The assertion at a point (R97, R168, R184). -/
def estopPoint (p : Point) (s : State) : State :=
  if (s.point p).ctl.state = .proving then closeRunFor p .estop s else closeFor p .estop s

def estopPoints (s : State) : State := allPoints.foldl (fun t p => estopPoint p t) s

/-- The assertion at a live record that is not settled by it (R63). -/
def estopFree (k : Slot) (s : State) : State :=
  match s.slot k with
  | some a =>
    if a.state = .awaitOnline || a.state = .armed then freeWith k .cancelledEstop s
    else if a.state = .delivering then modSlot k (AuthRecord.close .estop) s
    else s
  | none => s

/-- The assertion at a record in IDLE_OPEN (R63). -/
def estopSettle (k : Slot) (s : State) : State :=
  match s.slot k with
  | some a => if a.state = .idleOpen then settle k .estop s else s
  | none => s

/-- Records are freed and closed, then those in IDLE_OPEN settle, each in ascending slot order (R63, R161). -/
def estopRecords (s : State) : State :=
  allSlots.foldl (fun t k => estopSettle k t) (allSlots.foldl (fun t k => estopFree k t) s)

/-- The records an assertion frees or settles at once (R169). -/
def estopCount (s : State) : Nat :=
  allSlots.countP fun k =>
    (s.slot k).any fun a => a.state == .awaitOnline || a.state == .armed || a.state == .idleOpen

/-- An assertion that finds the latch clear (R168). -/
def estopStop (s : State) : State :=
  let n := estopCount s
  let s1 := closeAllValves { s with sup := { s.sup with estopLatch := true } }
  estopRecords (estopPoints (estopPumps (presentEstop true n s1)))

/-- ESTOP_ASSERTION (R168, R169). -/
def execEstopAssertion (s : State) : Out :=
  if s.sup.estopInput then .next s
  else
    let t : State := { s with sup := { s.sup with estopInput := true } }
    if s.sup.estopLatch then .next (presentEstop true 0 t) else .next (estopStop t)

/-- ESTOP_DEASSERTION (R169). -/
def execEstopDeassertion (s : State) : Out :=
  if s.sup.estopInput then .next (presentEstop false 0 { s with sup := { s.sup with estopInput := false } })
  else .next s

/-! ### CAL_EN -/

/-- CAL_EN_ASSERTION (R178). -/
def execCalEnAssertion (s : State) : Out :=
  if s.cal.enabled then .next s
  else .next (presentSite .calEnabled true { s with cal := { s.cal with enabled := true } })

/-- CAL_EN_DEASSERTION (R178). -/
def execCalEnDeassertion (s : State) : Out :=
  if s.cal.enabled then .next (presentSite .calEnabled false { s with cal := { s.cal with enabled := false } })
  else .next s

/-! ### READY contacts -/

/-- The pump waits for READY after its spin-up (R114). -/
def State.inReadyWait (s : State) (k : Pump) : Bool :=
  (s.pump k).state == .starting && (s.pump k).timer.any fun t => t.kind == .readyWait

/-- READY_ASSERTION (R114); with ready-check off it is only recorded (R117, DEDUCED, log 45). -/
def execReadyAssertion (k : Pump) (s : State) : Out :=
  if (s.pump k).ready then .next s
  else
    let t := modPump k (fun r => { r with ready := true }) s
    if s.inReadyWait k && (s.pumpSettings k).readyCheck then .next (upToPressure k t) else .next t

/-- READY_DEASSERTION (R117). -/
def execReadyDeassertion (k : Pump) (s : State) : Out :=
  if (s.pump k).ready then
    let t := modPump k (fun r => { r with ready := false }) s
    if (s.pumpSettings k).readyCheck && ((s.pump k).state = .running || (s.pump k).state = .runOn) then
      .next (pumpFail k .readyLost t)
    else .next t
  else .next s

end Sys2Proof.Machine
end

