-- ==== Sys2Proof/Machine/TimerCmds.lean ====
section
/-! DEFINITION. Machine/TimerCmds.lean: the expiries of the part's timers. An expiry acts where its timer runs in the
state it belongs to, and else changes nothing (a stopped timer does not expire, R50; DESIGN CHOICE, log 4). -/

namespace Sys2Proof.Machine

open Sys2Proof

/-! ### Records -/

/-- The record of a slot has this live timer running. -/
def State.liveTimerRuns (s : State) (k : Slot) (t : LiveTimerKind) (st : RecordState) : Bool :=
  (s.slot k).any fun a => a.state == st && a.timer.any fun x => x.kind == t

/-- ONLINE_TIMER_EXPIRY (R50). -/
def execOnlineTimerExpiry (k : Slot) (s : State) : Out :=
  if s.liveTimerRuns k .online .awaitOnline then .next (expireOnline k s) else .next s

/-- ARMING_TIMER_EXPIRY (R56). -/
def execArmingTimerExpiry (k : Slot) (s : State) : Out :=
  if s.liveTimerRuns k .arming .armed then .next (freeWith k .expired s) else .next s

/-- IDLE_CLOSE_EXPIRY (R60). -/
def execIdleCloseExpiry (k : Slot) (s : State) : Out :=
  if s.liveTimerRuns k .idleClose .idleOpen then .next (settle k .idleClose s) else .next s

/-! ### Points -/

/-- The point is in a state with this point timer running. -/
def State.pointTimerRuns (s : State) (p : Point) (t : PointTimerKind) (st : PointState) : Bool :=
  (s.point p).ctl.state == st && (s.point p).ctl.timer.any fun x => x.kind == t

/-- SOFT_STOP_TIMER_EXPIRY (R95). -/
def execSoftStopTimerExpiry (p : Point) (s : State) : Out :=
  if s.pointTimerRuns p .softStop .stopping then
    .next (enterFinished p ((s.point p).ctl.softReason.getD .hostStop) s)
  else .next s

/-- SUSPENSION_TIMER_EXPIRY (R100). -/
def execSuspensionTimerExpiry (p : Point) (s : State) : Out :=
  if s.pointTimerRuns p .suspension .suspended then .next (enterFinished p .suspendTimeout s) else .next s

/-- DRAIN_TIMER_EXPIRY (R103). -/
def execDrainTimerExpiry (p : Point) (s : State) : Out :=
  if s.pointTimerRuns p .drain .finished then .next (restPoint false p (mergeDelivery p s)) else .next s

/-- PROVING_TAIL_TIMER_EXPIRY (R184). -/
def execProvingTailTimerExpiry (p : Point) (s : State) : Out :=
  if s.pointTimerRuns p .softStop .proving && s.provePhase p = some .tail then .next (enterProvingDrain p .hostStop s)
  else .next s

/-- PROVING_DRAIN_EXPIRY (R184). -/
def execProvingDrainExpiry (p : Point) (s : State) : Out :=
  if s.pointTimerRuns p .drain .proving && s.provePhase p = some .drain then .next (enterProvingDone p none s)
  else .next s

/-! ### Pumps -/

/-- The pump is in a state with this pump timer running. -/
def State.pumpTimerRuns (s : State) (k : Pump) (t : PumpTimerKind) (st : PumpState) : Bool :=
  (s.pump k).state == st && (s.pump k).timer.any fun x => x.kind == t

/-- The ready-wait timer starts (R114). -/
def startReadyWait (k : Pump) (s : State) : State :=
  modPump k (fun r => { r with timer := some ⟨.readyWait, secondTicks (s.pumpSettings k).readyWait⟩ }) s

/-- SPIN_UP_EXPIRY (R114). -/
def execSpinUpExpiry (k : Pump) (s : State) : Out :=
  if s.pumpTimerRuns k .spinUp .starting then
    if (s.pumpSettings k).readyCheck && !(s.pump k).ready then .next (startReadyWait k s)
    else .next (upToPressure k s)
  else .next s

/-- READY_WAIT_EXPIRY (R114). -/
def execReadyWaitExpiry (k : Pump) (s : State) : Out :=
  if s.pumpTimerRuns k .readyWait .starting then
    if (s.pumpSettings k).readyCheck then .next (pumpFail k .readyTimeout s) else .next (upToPressure k s)
  else .next s

/-- RUN_ON_EXPIRY (R116). -/
def execRunOnExpiry (k : Pump) (s : State) : Out :=
  if s.pumpTimerRuns k .runOn .runOn then
    .next (pushNotice (.pumpStopped k) (modPump k (fun r => { r with state := .stopped, timer := none }) s))
  else .next s

/-! ### Report interval -/

/-- A COUNTER_REPORT for a point whose snapshot values are not all 0 (R177). -/
def reportPoint (p : Point) (s : State) : State :=
  let c := s.sup.snapshots[p.val]
  if c.isZero then s else pushNotice (.counterReport p c s.sup.snapshotTime) s

/-- The interval timer starts (R177). -/
def startReportTimer (s : State) : State :=
  { s with sup := { s.sup with reportTimer := some (secondTicks s.site.reportInterval) } }

/-- REPORT_INTERVAL_EXPIRY (R177). -/
def execReportIntervalExpiry (s : State) : Out :=
  if s.sup.reportTimer.isSome then
    .next (startReportTimer (allPoints.foldl (fun t p => reportPoint p t) (takeSnapshot s)))
  else .next s

end Sys2Proof.Machine
end

