-- ==== Sys2Proof/Machine/Frames.lean ====
section
/-! DEFINITION. Machine/Frames.lean: the receiver (R187): a byte of the line in HUNT, FRAME or REPLY, the checks of a
whole frame, and the taking of the request an accepted frame carries (R188). -/

namespace Sys2Proof.Machine

open Sys2Proof

/-- The request of an accepted frame is taken under its owner's rule (R188). A command that is no request does not
come from a frame. -/
def takeFrame (i : Instr) (s : State) : Out :=
  match i with
  | .unknownRequest d k => execUnknownRequest d k s
  | .status d b => execStatus d b s
  | .nextNotice d b => execNextNotice d b s
  | .cardPresented d b => execCardPresented d b s
  | .onlineResult d b => execOnlineResult d b s
  | .acquirerState d b => execAcquirerState d b s
  | .cancelAuth d b => execCancelAuth d b s
  | .authRead d b => execAuthRead d b s
  | .pointRead d b => execPointRead d b s
  | .pointStats d b => execPointStats d b s
  | .stopPoint d b => execStopPoint d b s
  | .suspendPoint d b => execSuspendPoint d b s
  | .resumePoint d b => execResumePoint d b s
  | .faultClear d b => execFaultClear d b s
  | .saleFetch d b => execSaleFetch d b s
  | .saleClear d b => execSaleClear d b s
  | .profileWrite d b => execProfileWrite d b s
  | .profileRead d b => execProfileRead d b s
  | .profileCount d b => execProfileCount d b s
  | .hotlistAdd d b => execHotlistAdd d b s
  | .hotlistRemove d b => execHotlistRemove d b s
  | .hotlistClear d b => execHotlistClear d b s
  | .hotlistQuery d b => execHotlistQuery d b s
  | .historyRead d b => execHistoryRead d b s
  | .dayClose d b => execDayClose d b s
  | .clockSet d b => execClockSet d b s
  | .laneConfig d b => execLaneConfig d b s
  | .pointConfig d b => execPointConfig d b s
  | .productConfig d b => execProductConfig d b s
  | .siteConfig d b => execSiteConfig d b s
  | .pumpReset d b => execPumpReset d b s
  | .siteResume d b => execSiteResume d b s
  | .alarmMask d b => execAlarmMask d b s
  | .alarmClear d b => execAlarmClear d b s
  | .countersRead d b => execCountersRead d b s
  | .proveStart d b => execProveStart d b s
  | .proveStop d b => execProveStop d b s
  | .proveResult d b => execProveResult d b s
  | .calLogRead d b => execCalLogRead d b s
  | .totalsRead d b => execTotalsRead d b s
  | .reset d b => execReset d b s
  | .frameByteReceived _ _ | .frameGapTimeout | .replySent | .coldStart _ _ | .warmRestart _ _ | .nozzleLift _
  | .hangUp _ | .meterTransition _ _ _ | .noFlowLimit _ | .estopAssertion | .estopDeassertion | .calEnAssertion
  | .calEnDeassertion | .readyAssertion _ | .readyDeassertion _ | .onlineTimerExpiry _ | .armingTimerExpiry _
  | .idleCloseExpiry _ | .softStopTimerExpiry _ | .suspensionTimerExpiry _ | .drainTimerExpiry _ | .spinUpExpiry _
  | .readyWaitExpiry _ | .runOnExpiry _ | .reportIntervalExpiry | .provingTailTimerExpiry _
  | .provingDrainExpiry _ => .next s

/-- What the bytes of a frame, the start byte not counted, come to (R187). -/
inductive FrameCheck where
  | more
  | abandoned
  | accepted (d : Dest) (body : List Byte)
  deriving DecidableEq, Repr

/-- The destination of a frame whose address is `a`: broadcast, this station, or neither (R187). -/
def frameDest (station : BitVec 5) (a : Byte) : Option Dest :=
  if a = 0 then some .broadcast else if a = station.setWidth 8 then some .station else none

/-- The checks of a whole frame: CRC over address, length and body, then the address (R187). -/
def checkFrame (station : BitVec 5) (bytes : List Byte) : FrameCheck :=
  let n := (byteAt bytes 1).toNat
  if crc16 (bytes.take (2 + n)) = w16At bytes (2 + n) then
    match frameDest station (byteAt bytes 0) with
    | some d => .accepted d ((bytes.drop 2).take n)
    | none => .abandoned
  else .abandoned

/-- The frame after one more byte (R187). -/
def frameCheck (station : BitVec 5) (bytes : List Byte) : FrameCheck :=
  if bytes.length < 2 then .more
  else if (byteAt bytes 1).toNat = 0 || Config.maxBody < (byteAt bytes 1).toNat then .abandoned
  else if bytes.length < 4 + (byteAt bytes 1).toNat then .more
  else checkFrame station bytes

/-- A byte taken in FRAME. -/
def takeInFrame (bytes : List Byte) (s : State) : Out :=
  match frameCheck s.link.station bytes with
  | .more => .next { s with link := { s.link with receiver := .frame bytes, gap := 0 } }
  | .abandoned => .next s.toHunt
  | .accepted d body => takeFrame (decodeBody d body) s.toHunt

/-- FRAME_BYTE_RECEIVED (R187; a missing stop bit in HUNT, DEDUCED, log 40). -/
def execFrameByteReceived (byte : Byte) (stopBit : Bool) (s : State) : Out :=
  match s.link.receiver with
  | .reply => .next s
  | .hunt =>
    if stopBit && byte = 0x02 then .next { s with link := { s.link with receiver := .frame [], gap := 0 } } else .next s
  | .frame bytes => if stopBit then takeInFrame (bytes ++ [byte]) s else .next s.toHunt

end Sys2Proof.Machine
end

