-- ==== Sys2Proof/Machine/Tick.lean ====
section
/-! DEFINITION. Machine/Tick.lean: one tick of the 100 µs time base, which is what the part does while no command
waits (DESIGN CHOICE, log 2). A tick that brings a timer to its end puts that timer's expiry into the queue (DESIGN
CHOICE, log 3). -/

namespace Sys2Proof.Machine

open Sys2Proof

/-! ### The parts of a tick -/

/-- The RTC: a second is 10,000 ticks (R192, DESIGN CHOICE, log 12). -/
def tickClock (c : Clock) : Clock :=
  if c.phase + 1 < Config.ticksPerSecond then { c with phase := c.phase + 1 }
  else { c with rtc := c.rtc.nextSecond, phase := 0 }

/-- The gap since the last byte of a frame (R187). -/
def tickLink (l : Link) : Link :=
  match l.receiver with
  | .frame _ => { l with gap := l.gap + 1 }
  | .hunt | .reply => l

/-- T of an active, unfrozen monitor, up to its limit (R145). -/
def tickMonitor (m : Monitor) : Monitor :=
  if m.active && !m.frozen then { m with ticks := min (m.ticks + 1) m.noFlowLimit } else m

def tickPoint (u : PointUnit) : PointUnit :=
  { u with
    ctl := { u.ctl with timer := u.ctl.timer.map fun t => { t with left := t.left - 1 } }
    monitor := tickMonitor u.monitor }

def tickPump (r : PumpRecord) : PumpRecord :=
  { r with timer := r.timer.map fun t => { t with left := t.left - 1 } }

def tickRecord (a : AuthRecord) : AuthRecord :=
  { a with timer := a.timer.map fun t => { t with left := t.left - 1 } }

/-- Every counter of the part moves by one tick. -/
def advance (s : State) : State :=
  { s with
    clock := tickClock s.clock
    link := tickLink s.link
    points := s.points.map tickPoint
    pumps := ⟨tickPump s.pumps.a, tickPump s.pumps.b, tickPump s.pumps.c⟩
    auth := { s.auth with slots := s.auth.slots.map (Option.map tickRecord) }
    sup := { s.sup with reportTimer := s.sup.reportTimer.map (· - 1) } }

/-! ### What has come to its end -/

/-- The expiry of a pump's timer. -/
def pumpExpiry (s : State) (k : Pump) : List Instr :=
  match (s.pump k).timer with
  | some ⟨.spinUp, 0⟩ => [.spinUpExpiry k]
  | some ⟨.readyWait, 0⟩ => [.readyWaitExpiry k]
  | some ⟨.runOn, 0⟩ => [.runOnExpiry k]
  | _ => []

/-- The expiry of a point's timer, by its kind and by what the point is doing. -/
def pointExpiry (s : State) (p : Point) : List Instr :=
  match (s.point p).ctl.timer with
  | some ⟨.softStop, 0⟩ =>
    if (s.point p).ctl.state = .proving then [.provingTailTimerExpiry p] else [.softStopTimerExpiry p]
  | some ⟨.suspension, 0⟩ => [.suspensionTimerExpiry p]
  | some ⟨.drain, 0⟩ =>
    if (s.point p).ctl.state = .proving then [.provingDrainExpiry p] else [.drainTimerExpiry p]
  | _ => []

/-- T has reached the no-flow limit of the window under way (R148). -/
def flowExpiry (s : State) (p : Point) : List Instr :=
  if (s.point p).monitor.limitReached then [.noFlowLimit p] else []

/-- The expiry of a record's live timer. -/
def recordExpiry (s : State) (k : Slot) : List Instr :=
  match (s.slot k).bind AuthRecord.timer with
  | some ⟨.online, 0⟩ => [.onlineTimerExpiry k]
  | some ⟨.arming, 0⟩ => [.armingTimerExpiry k]
  | some ⟨.idleClose, 0⟩ => [.idleCloseExpiry k]
  | _ => []

def reportExpiry (s : State) : List Instr := if s.sup.reportTimer = some 0 then [.reportIntervalExpiry] else []

/-- A gap of more than 10 ms inside a frame (R187). -/
def gapExpiry (s : State) : List Instr :=
  match s.link.receiver with
  | .frame _ => if Config.maxGapTicks < s.link.gap then [.frameGapTimeout] else []
  | .hunt | .reply => []

/-- The commands a tick puts into the queue, in the order of log 3 (DESIGN CHOICE). -/
def expiries (s : State) : List Instr :=
  allPumps.flatMap (pumpExpiry s) ++ allPoints.flatMap (fun p => flowExpiry s p ++ pointExpiry s p)
    ++ allSlots.flatMap (recordExpiry s) ++ reportExpiry s ++ gapExpiry s

/-- One tick. -/
def tick (s : State) : State :=
  let t := advance s
  { t with pending := t.pending ++ expiries t }

end Sys2Proof.Machine
end

