-- ==== Sys2Proof/Machine/Dispatch.lean ====
section
/-! DEFINITION. Machine/Dispatch.lean: the meaning of each command. -/

namespace Sys2Proof.Machine

open Sys2Proof

def exec (i : Instr) (s : State) : Host.Outcome State Fault Refusal :=
  match i with
  | .frameByteReceived byte stopBit => Sys2Proof.Machine.execFrameByteReceived byte stopBit s
  | .frameGapTimeout => Sys2Proof.Machine.execFrameGapTimeout s
  | .replySent => Sys2Proof.Machine.execReplySent s
  | .unknownRequest d kind => Sys2Proof.Machine.execUnknownRequest d kind s
  | .status d b => Sys2Proof.Machine.execStatus d b s
  | .nextNotice d b => Sys2Proof.Machine.execNextNotice d b s
  | .cardPresented d b => Sys2Proof.Machine.execCardPresented d b s
  | .onlineResult d b => Sys2Proof.Machine.execOnlineResult d b s
  | .acquirerState d b => Sys2Proof.Machine.execAcquirerState d b s
  | .cancelAuth d b => Sys2Proof.Machine.execCancelAuth d b s
  | .authRead d b => Sys2Proof.Machine.execAuthRead d b s
  | .pointRead d b => Sys2Proof.Machine.execPointRead d b s
  | .pointStats d b => Sys2Proof.Machine.execPointStats d b s
  | .stopPoint d b => Sys2Proof.Machine.execStopPoint d b s
  | .suspendPoint d b => Sys2Proof.Machine.execSuspendPoint d b s
  | .resumePoint d b => Sys2Proof.Machine.execResumePoint d b s
  | .faultClear d b => Sys2Proof.Machine.execFaultClear d b s
  | .saleFetch d b => Sys2Proof.Machine.execSaleFetch d b s
  | .saleClear d b => Sys2Proof.Machine.execSaleClear d b s
  | .profileWrite d b => Sys2Proof.Machine.execProfileWrite d b s
  | .profileRead d b => Sys2Proof.Machine.execProfileRead d b s
  | .profileCount d b => Sys2Proof.Machine.execProfileCount d b s
  | .hotlistAdd d b => Sys2Proof.Machine.execHotlistAdd d b s
  | .hotlistRemove d b => Sys2Proof.Machine.execHotlistRemove d b s
  | .hotlistClear d b => Sys2Proof.Machine.execHotlistClear d b s
  | .hotlistQuery d b => Sys2Proof.Machine.execHotlistQuery d b s
  | .historyRead d b => Sys2Proof.Machine.execHistoryRead d b s
  | .dayClose d b => Sys2Proof.Machine.execDayClose d b s
  | .clockSet d b => Sys2Proof.Machine.execClockSet d b s
  | .laneConfig d b => Sys2Proof.Machine.execLaneConfig d b s
  | .pointConfig d b => Sys2Proof.Machine.execPointConfig d b s
  | .productConfig d b => Sys2Proof.Machine.execProductConfig d b s
  | .siteConfig d b => Sys2Proof.Machine.execSiteConfig d b s
  | .pumpReset d b => Sys2Proof.Machine.execPumpReset d b s
  | .siteResume d b => Sys2Proof.Machine.execSiteResume d b s
  | .alarmMask d b => Sys2Proof.Machine.execAlarmMask d b s
  | .alarmClear d b => Sys2Proof.Machine.execAlarmClear d b s
  | .countersRead d b => Sys2Proof.Machine.execCountersRead d b s
  | .proveStart d b => Sys2Proof.Machine.execProveStart d b s
  | .proveStop d b => Sys2Proof.Machine.execProveStop d b s
  | .proveResult d b => Sys2Proof.Machine.execProveResult d b s
  | .calLogRead d b => Sys2Proof.Machine.execCalLogRead d b s
  | .totalsRead d b => Sys2Proof.Machine.execTotalsRead d b s
  | .reset d b => Sys2Proof.Machine.execReset d b s
  | .coldStart elapsed inputs => Sys2Proof.Machine.execColdStart elapsed inputs s
  | .warmRestart cause inputs => Sys2Proof.Machine.execWarmRestart cause inputs s
  | .nozzleLift p => Sys2Proof.Machine.execNozzleLift p s
  | .hangUp p => Sys2Proof.Machine.execHangUp p s
  | .meterTransition p pair order => Sys2Proof.Machine.execMeterTransition p pair order s
  | .noFlowLimit p => Sys2Proof.Machine.execNoFlowLimit p s
  | .estopAssertion => Sys2Proof.Machine.execEstopAssertion s
  | .estopDeassertion => Sys2Proof.Machine.execEstopDeassertion s
  | .calEnAssertion => Sys2Proof.Machine.execCalEnAssertion s
  | .calEnDeassertion => Sys2Proof.Machine.execCalEnDeassertion s
  | .readyAssertion k => Sys2Proof.Machine.execReadyAssertion k s
  | .readyDeassertion k => Sys2Proof.Machine.execReadyDeassertion k s
  | .onlineTimerExpiry k => Sys2Proof.Machine.execOnlineTimerExpiry k s
  | .armingTimerExpiry k => Sys2Proof.Machine.execArmingTimerExpiry k s
  | .idleCloseExpiry k => Sys2Proof.Machine.execIdleCloseExpiry k s
  | .softStopTimerExpiry p => Sys2Proof.Machine.execSoftStopTimerExpiry p s
  | .suspensionTimerExpiry p => Sys2Proof.Machine.execSuspensionTimerExpiry p s
  | .drainTimerExpiry p => Sys2Proof.Machine.execDrainTimerExpiry p s
  | .spinUpExpiry k => Sys2Proof.Machine.execSpinUpExpiry k s
  | .readyWaitExpiry k => Sys2Proof.Machine.execReadyWaitExpiry k s
  | .runOnExpiry k => Sys2Proof.Machine.execRunOnExpiry k s
  | .reportIntervalExpiry => Sys2Proof.Machine.execReportIntervalExpiry s
  | .provingTailTimerExpiry p => Sys2Proof.Machine.execProvingTailTimerExpiry p s
  | .provingDrainExpiry p => Sys2Proof.Machine.execProvingDrainExpiry p s

end Sys2Proof.Machine
end

