-- ==== Sys2Proof/Safety.lean ====
section
/-! DEFINITION. Safety.lean: the laws the manual states about the whole part, as predicates of a state, what its shared
actions do (finish, merge, bind, come up to pressure, settle), and the groups of commands statements speak of. -/

namespace Sys2Proof.Safety

open Sys2Proof Sys2Proof.Machine

/-! ### Laws of the tables -/

/-- The hot list is strictly ascending, with no duplicates and at most 1,024 entries (R16). -/
def HotListOrdered (s : State) : Prop :=
  s.screening.hotList.Pairwise (fun c d => c.before d = true) ∧ s.screening.hotList.length ≤ 1024

/-- The card history holds each card number at most once, at most 256 entries, and an entry for every card with a live
record (R32). -/
def HistoryHeld (s : State) : Prop :=
  (s.screening.history.map HistoryEntry.card).Nodup ∧ s.screening.history.length ≤ 256
    ∧ ∀ k a, s.slot k = some a → a.isLive = true → a.card ∈ s.screening.history.map HistoryEntry.card

/-- Each lane has at most one live record, and a card number appears in at most one (R44). -/
def OneLiveRecord (s : State) : Prop :=
  ∀ j k a b, s.slot j = some a → s.slot k = some b → a.isLive = true → b.isLive = true →
    a.lane = b.lane ∨ a.card = b.card → j = k

/-- The notice queue holds at most 64 notices (R190). -/
def NoticesHeld (s : State) : Prop := s.link.notices.length ≤ 64

/-- Every calibration record is in range (R136), and the log holds at most 32 entries (R179). -/
def CalibrationHeld (s : State) : Prop :=
  (∀ p, 10 ≤ (s.point p).cal.p ∧ (s.point p).cal.p ≤ 5000 ∧ -50000 ≤ (s.point p).cal.c ∧ (s.point p).cal.c ≤ 50000)
    ∧ s.cal.counter ≤ 65535 ∧ s.cal.log.length ≤ 32

/-! ### The hold (R69) -/

/-- An OPEN secondary line has its reservation as its allowance, and an UNOPENED one has no member (R67, R74). -/
def SecondaryKept (l : Line) : Prop :=
  (l.state = .opened → l.allowance = l.reservation) ∧ (l.state = .unopened → l.members = [])

/-- The hold of one record: what its secondary lines count is within H; while the primary line is OPEN, its allowance
and what they count make H exactly; and no line has opened in AWAIT_ONLINE. -/
def HoldKept (a : AuthRecord) : Prop :=
  a.lines.rfr.charge + a.lines.defl.charge ≤ a.hold.getD 0
    ∧ (a.lines.dsl.state = .opened →
        a.lines.dsl.allowance + a.lines.rfr.charge + a.lines.defl.charge = a.hold.getD 0)
    ∧ SecondaryKept a.lines.rfr ∧ SecondaryKept a.lines.defl
    ∧ (a.state = .awaitOnline →
        a.lines.dsl.state = .unopened ∧ a.lines.rfr.state = .unopened ∧ a.lines.defl.state = .unopened)

/-- Every record of the table keeps its hold. -/
def HoldsKept (s : State) : Prop := ∀ k a, s.slot k = some a → HoldKept a

/-! ### The valves (R87, R88, R168, R181) -/

/-- The stage a phase of a proving run gives the valve (R181). -/
def phaseStage (f : ProvePhase) : ValveStage :=
  match f with
  | .liftWait | .pumpWait | .drain | .done => .closed
  | .slow | .tail => .slow
  | .fast => .fast

/-- The stage a point's state gives its valve (R87, R181). -/
def stateStage (c : PointRecord) : ValveStage :=
  match c.state with
  | .softStart | .slowDown | .stopping => .slow
  | .fast => .fast
  | .proving =>
    match c.proving with
    | some r => phaseStage r.phase
    | none => .closed
  | .idle | .calling | .waitPump | .suspended | .finished | .outOfService => .closed

/-- The states of a bound point that is not FINISHED (R87). -/
def delivering (st : PointState) : Bool :=
  match st with
  | .waitPump | .softStart | .fast | .slowDown | .stopping | .suspended => true
  | .idle | .calling | .finished | .proving | .outOfService => false

/-- A point's valve follows its state, a delivering point is bound, and a point in PROVING has a run. -/
def PointSound (c : PointRecord) : Prop :=
  c.stage = stateStage c ∧ (delivering c.state = true → c.binding.isSome = true)
    ∧ (c.state = .proving → c.proving.isSome = true)

/-- A point that cannot open its valve without a binding, a PROVE START or a RESUME POINT. -/
def quiet (c : PointRecord) : Bool :=
  match c.state with
  | .idle | .calling | .finished | .outOfService => true
  | .proving => c.proving.any fun r => r.phase == .drain || r.phase == .done
  | .waitPump | .softStart | .fast | .slowDown | .stopping | .suspended => false

/-- A record that admits no binding: a sale, or DELIVERING with CLOSING set. -/
def shut (a : AuthRecord) : Bool := a.state == .settled || (a.state == .delivering && a.flags.closing)

/-- Every point is sound; and while the ESTOP latch is set every point is quiet and every record shut. -/
def ValvesSafe (s : State) : Prop :=
  (∀ p, PointSound (s.point p).ctl)
    ∧ (s.sup.estopLatch = true → (∀ p, quiet (s.point p).ctl = true) ∧ ∀ k a, s.slot k = some a → shut a = true)

/-! ### Counts (R105, R132, R181) -/

/-- A net count and its peak lie within their bounds, and the net count is not above the peak. -/
def countHeld (net peak : Int) : Prop := -999999999 ≤ net ∧ net ≤ peak ∧ peak ≤ 999999999

/-- The counts of every delivery record and proving run are held. -/
def CountsHeld (s : State) : Prop :=
  ∀ p, (∀ d, (s.point p).ctl.delivery = some d → countHeld d.net d.peak)
    ∧ ∀ r, (s.point p).ctl.proving = some r → countHeld r.net r.peak

/-! ### The supply pumps (R88, R112, R115) -/

/-- A point with its valve open stands in the demand of its product's pump, and that pump is RUNNING. -/
def OpenOnRunningPump (s : State) : Prop :=
  ∀ p, (s.point p).ctl.stage ≠ .closed →
    (s.pump (s.pumpOfPoint p)).state = .running ∧ p ∈ (s.pump (s.pumpOfPoint p)).demand

/-- A demand set holds points of the pump's product alone. -/
def DemandsOwn (s : State) : Prop := ∀ k p, p ∈ (s.pump k).demand → s.pumpOfPoint p = k

/-! ### What a command leaves as it was -/

/-- Every point but one is as it was. -/
def othersKept (p : Point) (s t : State) : Prop := ∀ q, q ≠ p → t.point q = s.point q

/-- Every slot but one is as it was. -/
def slotsKept (k : Slot) (s t : State) : Prop := ∀ j, j ≠ k → t.slot j = s.slot j

/-- Of the link, the notice queue and the overflow flag alone may have changed. -/
def linkKept (s t : State) : Prop :=
  t.link = { s.link with notices := t.link.notices, overflow := t.link.overflow }

/-- A point's decoder, settings, calibration record, totaliser and inputs are as they were. -/
def unitKept (u v : PointUnit) : Prop :=
  v.meter = u.meter ∧ v.config = u.config ∧ v.cal = u.cal ∧ v.totaliser = u.totaliser ∧ v.inputPair = u.inputPair

/-- Points, pumps and the notice queue alone may have changed. -/
def equipmentOnly (s t : State) : Prop :=
  t = { s with points := t.points, pumps := t.pumps, link := t.link } ∧ linkKept s t

/-! ### How a delivery ends -/

/-- A point leaves its pump's demand (R112); a RUNNING pump whose set becomes empty enters RUN_ON, or STOPPED at once
with a run-on time of 0 (R115, R116). -/
def leavesDemand (p : Point) (s t : State) : Prop :=
  let k := s.pumpOfPoint p
  let rest := (s.pump k).demand.filter (· != p)
  (∀ j, j ≠ k → t.pump j = s.pump j)
    ∧ (t.pump k).demand = rest ∧ (t.pump k).ready = (s.pump k).ready ∧ (t.pump k).cause = (s.pump k).cause
    ∧ if (s.pump k).state = .running ∧ p ∈ (s.pump k).demand ∧ rest = [] then
        if (s.pumpSettings k).runOn = 0 then (t.pump k).state = .stopped ∧ (t.pump k).timer = none
        else
          (t.pump k).state = .runOn ∧ (t.pump k).timer = some ⟨.runOn, (s.pumpSettings k).runOn * 10000⟩
      else (t.pump k).state = (s.pump k).state ∧ (t.pump k).timer = (s.pump k).timer

/-- The monitor of a point whose valve closes: that of an open valve stops (R144). -/
def closedMonitor (u : PointUnit) : Monitor :=
  if u.ctl.stage = .closed then u.monitor else { u.monitor with active := false, latest := 0 }

/-- A bound point closes and enters FINISHED with a reason: its drain timer runs, its binding stands, its delivery
record takes the reason, and nothing else of the part changes but its pump's demand and the notice queue (R97, R103).
-/
def finishes (p : Point) (r : EndReason) (s t : State) : Prop :=
  equipmentOnly s t ∧ othersKept p s t ∧ unitKept (s.point p) (t.point p) ∧ leavesDemand p s t
    ∧ (t.point p).monitor = closedMonitor (s.point p)
    ∧ (t.point p).ctl =
      { (s.point p).ctl with
        state := .finished
        stage := .closed
        finishReason := some r
        suspendCause := none
        softReason := none
        stopPending := none
        timer := some ⟨.drain, s.site.drainTime * 10000⟩
        delivery := (s.point p).ctl.delivery.map fun d => { d with endReason := some r } }

/-- The monitor of a valve that opens: it starts, and its first window begins with the settings as stored (R144,
R145). -/
def openedMonitor (u : PointUnit) : Monitor :=
  { u.monitor with
    active := true, frozen := false, reference := none, settle := 0, latest := 0, count := 0, ticks := 0
    size := windowSize u.config.window, noFlowLimit := u.config.noFlowTime * 10000 }

/-- A proving run closes its valve and enters DRAIN with an end cause, unless it has one (R184). -/
def drainsRun (p : Point) (r : ProvingRun) (e : ProveEnd) (s t : State) : Prop :=
  equipmentOnly s t ∧ othersKept p s t ∧ unitKept (s.point p) (t.point p) ∧ leavesDemand p s t
    ∧ (t.point p).monitor = closedMonitor (s.point p)
    ∧ (t.point p).ctl =
      { (s.point p).ctl with
        stage := .closed, timer := some ⟨.drain, s.site.drainTime * 10000⟩
        proving := some { r with phase := .drain, endCause := r.endCause.or (some e) } }

/-- A soft stop reaches points of a record (R96): an open point before STOPPING enters it on the slow stage, a point in
WAIT_PUMP or SUSPENDED finishes, any other stays as it was. -/
def softStops (ps : List Point) (r : EndReason) (s t : State) : Prop :=
  (∀ p, p ∉ ps → t.point p = s.point p)
    ∧ ∀ p ∈ ps, unitKept (s.point p) (t.point p)
      ∧ if (s.point p).ctl.state = .softStart ∨ (s.point p).ctl.state = .fast ∨ (s.point p).ctl.state = .slowDown then
          (t.point p).ctl.state = .stopping ∧ (t.point p).ctl.stage = .slow ∧ (t.point p).ctl.softReason = some r
            ∧ (t.point p).ctl.timer = some ⟨.softStop, s.site.softStopTime * 10000⟩
        else if (s.point p).ctl.state = .waitPump ∨ (s.point p).ctl.state = .suspended then
          (t.point p).ctl.state = .finished ∧ (t.point p).ctl.stage = .closed ∧ (t.point p).ctl.finishReason = some r
        else t.point p = s.point p

/-- The merge of delivery `d` of point `p`, bound to the DELIVERING record `a` of slot `k`, with end reason `r` (R59,
R68, R76 to R78, R104, R140, R159): the totaliser rises by V, the delivery is final, the binding is released, the line
takes its figures, the record goes on, settles or becomes IDLE_OPEN, and POINT_EVENT(FINAL) is queued. -/
def merges (p : Point) (k : Slot) (a : AuthRecord) (d : Delivery) (r : EndReason) (s t : State) : Prop :=
  let v := volumeOf (s.point p).cal d.net
  let l := a.lines.get d.line
  let rest := a.bound.filter (· != p)
  let served := ∀ q ∈ pointsOf a.lane, s.fitted q = true → a.snapshot.allowed.has (s.productOf q) = true →
    q = p ∨ q ∈ a.delivered
  t = { s with
        auth := t.auth, screening := { s.screening with history := t.screening.history }, points := t.points
        pumps := t.pumps, sup := { s.sup with pointAlarms := t.sup.pointAlarms }, link := t.link }
    ∧ linkKept s t ∧ slotsKept k s t ∧ t.auth.serial = s.auth.serial ∧ unitKept { s.point p with
        totaliser := max (s.point p).totaliser (min ((s.point p).totaliser + v) 18446744073709551615) } (t.point p)
    ∧ (t.point p).ctl.delivery = some { d with volume := v, endReason := some r, backLink := none, final := true }
    ∧ (d.line = .dsl ∨ a.lines.dsl.state ≠ .opened → othersKept p s t)
    ∧ (if l.hasMember p = true ∧ (s.product d.line).tolerance
            < min (memberSum (setMember p v l.members)) 9999999 - l.limit then
        ((t.sup.pointAlarms[p.val]).get .overrun).latched = true
      else t.sup = s.sup)
    ∧ (s.link.notices.length ≤ 56 → ⟨s.now, .pointFinal p d.serial d.line v r⟩ ∈ t.link.notices)
    ∧ ∃ b, t.slot k = some b ∧ b.serial = a.serial ∧ b.lane = a.lane ∧ b.card = a.card ∧ b.hold = a.hold
      ∧ (∀ q, q ∈ b.delivered ↔ q = p ∨ q ∈ a.delivered)
      ∧ b.deliveries = a.deliveries ++ [⟨p, d.line, v, r, d.start, d.degraded, d.sat⟩]
      ∧ (l.hasMember p = true →
          (b.lines.get d.line).volume = min (memberSum (setMember p v l.members)) 9999999
          ∧ (b.lines.get d.line).amount = amountOf (b.lines.get d.line).volume (l.price.getD 0)
          ∧ (b.lines.get d.line).overrun = (b.lines.get d.line).volume - l.limit
          ∧ (d.line ≠ .dsl →
              (b.lines.get d.line).state = .final
              ∧ (b.lines.get d.line).reservation = min (b.lines.get d.line).amount l.reservation
              ∧ (a.lines.dsl.state = .opened →
                  b.lines.dsl.allowance = b.hold.getD 0 - (b.lines.rfr.charge + b.lines.defl.charge))))
      ∧ (l.hasMember p = false → b.lines.get d.line = l ∨ d.line = .dsl)
      ∧ b.flags.overHold = (a.flags.overHold
          || decide (b.hold.getD 0 < b.lines.dsl.amount + b.lines.rfr.amount + b.lines.defl.amount))
      ∧ (rest ≠ [] → b.state = .delivering ∧ b.bound = rest ∧ t.auth.sales = s.auth.sales)
      ∧ (rest = [] → a.flags.closing = true ∨ served →
          b.state = .settled ∧ b.bound = [] ∧ t.auth.sales = s.auth.sales ++ [a.serial]
            ∧ b.endReason = some (a.endReason.getD (if a.flags.closing then .cancel else .allDelivered)))
      ∧ (rest = [] → a.flags.closing = false → ¬ served →
          b.state = .idleOpen ∧ b.bound = [] ∧ t.auth.sales = s.auth.sales
            ∧ b.timer = some ⟨.idleClose, s.site.idleCloseTime * 10000⟩)

/-! ### The supply pumps' actions -/

/-- The state `s` with the unit `v` at point `p`, and the record `x` at the point's pump, its demand joined (R112). -/
def joinedAs (p : Point) (v : PointUnit) (x : PumpRecord) (s : State) : State :=
  { s with
    points := s.points.set p.val v
    pumps :=
      s.pumps.set (s.pumpOfPoint p) { x with demand := addPoint p (s.pump (s.pumpOfPoint p)).demand } }

/-- The record of a pump that a point's joining starts (R113), or returns from RUN_ON (R116). -/
def startedPump (k : Pump) (s : State) : PumpRecord :=
  { s.pump k with state := .starting, timer := some ⟨.spinUp, (s.pumpSettings k).spinUp * 1000⟩ }
def runningPump (r : PumpRecord) : PumpRecord :=
  { r with state := .running, timer := if r.state = .runOn then none else r.timer }

/-- A bound point whose valve is closed goes on to its pump (R81, R90, R92, R113, R115, R116, R118): with the pump
FAILED it finishes with PUMP_FAIL; with it STOPPED it waits and the pump starts; with it STARTING it waits; with it
RUNNING or RUN_ON it opens into SLOW_DOWN within the slow-down band and else into SOFT_START, or finishes with LIMIT
within the close-ahead. -/
def waitsForPump (p : Point) (s t : State) : Prop :=
  let k := s.pumpOfPoint p
  let r := s.pump k
  let u := s.point p
  let e := s.product (s.productOf p)
  let c : PointRecord :=
    { u.ctl with state := .waitPump, suspendCause := none, stopPending := none, timer := none }
  (r.state = .failed → finishes p .pumpFail s t)
    ∧ (r.state = .stopped →
        t = pushNotice (.pumpStarted k) (joinedAs p { u with ctl := c } (startedPump k s) s))
    ∧ (r.state = .starting → t = joinedAs p { u with ctl := c } r s)
    ∧ (r.state = .running ∨ r.state = .runOn →
        if s.remainderOf p ≤ e.closeAhead then finishes p .limit (joinedAs p { u with ctl := c } (runningPump r) s) t
        else
          t =
            joinedAs p
              { u with
                monitor := openedMonitor u
                ctl :=
                  { c with
                    state := if s.remainderOf p ≤ e.slowDown then .slowDown else .softStart
                    stage := .slow, startRef := (u.ctl.delivery.map Delivery.volume).getD 0 } }
              (runningPump r) s)

/-- A proving run of a point whose valve is closed goes on to its pump (R182, R183): with the pump FAILED it ends with
PUMP_FAIL; with it STOPPED it waits and the pump starts; with it STARTING it waits; with it RUNNING or RUN_ON the
valve opens and the run enters SLOW. -/
def runWaits (p : Point) (x : ProvingRun) (s t : State) : Prop :=
  let k := s.pumpOfPoint p
  let r := s.pump k
  let u := s.point p
  let waiting : PointUnit := { u with ctl := { u.ctl with proving := some { x with phase := .pumpWait } } }
  (r.state = .failed → drainsRun p x .pumpFail s t)
    ∧ (r.state = .stopped → t = pushNotice (.pumpStarted k) (joinedAs p waiting (startedPump k s) s))
    ∧ (r.state = .starting → t = joinedAs p waiting r s)
    ∧ (r.state = .running ∨ r.state = .runOn →
        t =
          joinedAs p
            { u with
              monitor := openedMonitor u
              ctl :=
                { u.ctl with
                  stage := .slow, proving := some { x with phase := .slow, startRef := volumeOf u.cal x.net } } }
            (runningPump r) s)

/-- A pump enters RUN_ON, or STOPPED at once with a run-on time of 0 (R115, R116). -/
def runsOn (k : Pump) (s : State) : State :=
  if (s.pumpSettings k).runOn = 0 then
    pushNotice (.pumpStopped k) { s with pumps := s.pumps.set k { s.pump k with state := .stopped, timer := none } }
  else
    { s with
      pumps :=
        s.pumps.set k
          { s.pump k with state := .runOn, timer := some ⟨.runOn, (s.pumpSettings k).runOn * 10000⟩ } }

/-- A STARTING pump comes up to pressure (R114, R115, R92, R183). With an empty demand set it runs on. Where every point
of the set waits for it with its valve closed, each of them opens, a bound point into SLOW_DOWN or SOFT_START by its
line's remainder and a proving run into SLOW, but a bound point within the close-ahead finishes with LIMIT and leaves
the set; the pump is RUNNING, and runs on where none stays. -/
def comesUp (k : Pump) (s t : State) : Prop :=
  let demand := (s.pump k).demand
  let stays (p : Point) : Bool :=
    (s.point p).ctl.state == .proving || decide ((s.product (s.productOf p)).closeAhead < s.remainderOf p)
  (demand = [] → t = runsOn k s)
    ∧ (demand ≠ [] →
        (∀ p ∈ demand, s.pumpOfPoint p = k ∧ (s.point p).ctl.stage = .closed
          ∧ ((s.point p).ctl.state = .waitPump
            ∨ ((s.point p).ctl.state = .proving ∧ s.provePhase p = some .pumpWait))) →
        (let rest := demand.filter stays
          let up : State :=
            { s with
              points := t.points
              pumps := s.pumps.set k { s.pump k with state := .running, timer := none, demand := rest } }
          t = if rest = [] then runsOn k up else up)
        ∧ (∀ p, p ∉ demand → t.point p = s.point p)
        ∧ ∀ p ∈ demand, unitKept (s.point p) (t.point p)
          ∧ (t.point p).monitor = (if stays p then openedMonitor (s.point p) else (s.point p).monitor)
          ∧ (t.point p).ctl =
            let c := (s.point p).ctl
            if c.state = .proving then
              { c with
                stage := .slow
                proving :=
                  c.proving.map fun r =>
                    { r with phase := .slow, startRef := volumeOf (s.point p).cal r.net } }
            else if stays p then
              { c with
                state := if s.remainderOf p ≤ (s.product (s.productOf p)).slowDown then .slowDown else .softStart
                stage := .slow, startRef := (c.delivery.map Delivery.volume).getD 0, timer := none }
            else
              { c with
                state := .finished, finishReason := some .limit, suspendCause := none, softReason := none
                stopPending := none, timer := some ⟨.drain, s.site.drainTime * 10000⟩
                delivery := c.delivery.map fun d => { d with endReason := some .limit } })

/-! ### Binding (R57, R58, R72 to R74, R90) -/

/-- The unit of point `p` bound to the line of its product in record `a` (R90, R105, R133); a satellite's delivery
names M as its back-link (R91). -/
def boundUnit (p : Point) (a : AuthRecord) (s : State) : PointUnit :=
  let u := s.point p
  { u with
    meter := { u.meter with reverseFound := false }
    ctl :=
      { u.ctl with
        binding := some ⟨a.serial, s.productOf p⟩
        delivery := some
          { serial := a.serial, line := s.productOf p, net := 0, peak := 0, volume := 0, degraded := false, sat := false
            start := s.now, endReason := none, final := false
            backLink := if placeOf p = .s ∧ s.productOf p = .dsl then some (pointM (laneOf p)) else none } } }

/-- Point `p` bound to the record `a` of slot `k`, which is DELIVERING with the lines `ls` (R59). -/
def bindsTo (p : Point) (k : Slot) (a : AuthRecord) (ls : Lines) (s : State) : State :=
  { s with
    points := s.points.set p.val (boundUnit p a s)
    auth :=
      { s.auth with
        slots :=
          s.auth.slots.set k.val
            (some { a with state := .delivering, timer := none, bound := addPoint p a.bound, lines := ls }) } }

/-- The volume limit of the DSL line of a record for an allowance and a price (R72). -/
def primaryLimit (a : AuthRecord) (money price : Nat) (s : State) : Nat :=
  let bought := min (volForMoney money price) s.site.deliveryMax
  min (a.onlineLimit.getD bought) (min (a.snapshot.capRemaining.getD bought) bought)

/-- The DSL line of a record opened by its first members (R67, R73). -/
def openedPrimary (a : AuthRecord) (ps : List Point) (s : State) : Line :=
  let money := a.hold.getD 0 - (a.lines.rfr.charge + a.lines.defl.charge)
  { blankLine with
    state := .opened, price := some s.products.dsl.price, allowance := money
    limit := primaryLimit a money s.products.dsl.price s, members := ps.map fun p => ⟨p, 0⟩ }

/-- What a secondary line of product `r` that opens may reserve: its cap, within the money left of the hold by the DSL
amount and by the other secondary line (R74). -/
def reservable (a : AuthRecord) (r : Product) : Nat :=
  let free : Int := (a.hold.getD 0 : Int) - a.lines.dsl.amount
    - (if r = .rfr then a.lines.defl.charge else a.lines.rfr.charge : Nat)
  min (if r = .rfr then a.snapshot.rfrCap else a.snapshot.defCap) free.toNat

/-- A secondary line opened by point `p` against a reservation (R74). -/
def openedSecondary (r : Product) (p : Point) (money : Nat) (s : State) : Line :=
  { blankLine with
    state := .opened, price := some (s.product r).price, allowance := money, reservation := money
    limit := min (volForMoney money (s.product r).price) s.site.deliveryMax, members := [⟨p, 0⟩] }

/-- The lines of a record whose secondary line `r` opens as `l`: an OPEN DSL line has its allowance and limit computed
again (R75). -/
def secondaryLines (a : AuthRecord) (r : Product) (l : Line) (s : State) : Lines :=
  let ls := a.lines.set r l
  let money := a.hold.getD 0 - (ls.rfr.charge + ls.defl.charge)
  if ls.dsl.state = .opened then
    { ls with
      dsl := { ls.dsl with allowance := money, limit := primaryLimit a money (ls.dsl.price.getD 0) s } }
  else ls

/-- A line joined by one more member (R67, R68, R70). -/
def joinedLine (l : Line) (p : Point) : Line :=
  { l with
    members := l.members ++ [⟨p, 0⟩], volume := min (memberSum l.members) 9999999
    amount := amountOf (min (memberSum l.members) 9999999) (l.price.getD 0) }

/-- The unit of a point moved to SLOW_DOWN (R80): its valve on the slow stage, its monitor as it was. -/
def slowedUnit (u : PointUnit) : PointUnit :=
  { u with
    ctl := { u.ctl with state := .slowDown, stage := .slow }
    monitor := if u.ctl.stage = .closed then openedMonitor u else u.monitor }

/-- What a limit evaluation with remainder `rem` does at one member point of a line of entry `e`, in the record of a
serial: within the close-ahead a bound point not yet FINISHED closes and finishes with LIMIT (R79); else within the
slow-down band one in FAST or SOFT_START moves to SLOW_DOWN (R80); any other stays as it was. -/
def evaluatesAt (serial : Nat) (rem : Int) (e : ProductEntry) (q : Point) (s t : State) : Prop :=
  let c := (s.point q).ctl
  if c.binding.map Binding.serial = some serial ∧ rem ≤ e.closeAhead ∧ c.state ≠ .finished then finishes q .limit s t
  else if c.binding.map Binding.serial = some serial ∧ e.closeAhead < rem ∧ rem ≤ e.slowDown
      ∧ (c.state = .fast ∨ c.state = .softStart) then
    t = { s with points := s.points.set q.val (slowedUnit (s.point q)) }
  else t = s

/-- An action takes the points of a list one after the other. -/
def takesEach (act : Point → State → State → Prop) : List Point → State → State → Prop
  | [], s, t => t = s
  | q :: qs, s, t => ∃ m, act q s m ∧ takesEach act qs m t

/-- A limit evaluation of an OPEN line of entry `e`, in the record of a serial, at each of its member points (R79,
R80). -/
def evaluates (l : Line) (serial : Nat) (e : ProductEntry) (s t : State) : Prop :=
  takesEach (evaluatesAt serial l.remainder e) (l.members.map Member.point) s t

/-- The record admits the point (R57, R58): it is ARMED, DELIVERING or IDLE_OPEN and not CLOSING, the product is
allowed, and a DSL satellite finds the DSL line OPEN. -/
def admits (a : AuthRecord) (p : Point) (s : State) : Prop :=
  (a.state = .armed ∨ a.state = .delivering ∨ a.state = .idleOpen) ∧ a.flags.closing = false
    ∧ a.snapshot.allowed.has (s.productOf p) = true
    ∧ (placeOf p = .s → s.productOf p = .dsl → a.lines.dsl.state = .opened)

/-- The satellite that point `p`, an M point, takes into its binding (R58): fitted, configured for DSL, in CALLING and
not delivered. -/
def takesSatellite (a : AuthRecord) (p : Point) (s : State) : Prop :=
  let q := pointS (laneOf p)
  s.fitted q = true ∧ s.productOf q = .dsl ∧ (s.point q).ctl.state = .calling ∧ q ∉ a.delivered

/-- A point in CALLING, its valve closed, takes the answer to its request to bind from the record of slot `k` (R57,
R58, R73, R74, R81, R90). A record that does not admit it leaves it in CALLING; a delivered point is FINISHED with
ALREADY_DELIVERED. Else it binds: its line is opened, or ended with NO_FUNDS where nothing can be reserved, or joined;
with the limit within the close-ahead it finishes with LIMIT, and else it goes on to its pump. A reservation has an OPEN
DSL line evaluated with its new limit before that (R75; DEDUCED, log 67), and a line joined is evaluated with the point
in place (R81): the evaluation acts on every member point. M binds with the lane's waiting satellite. -/
def takesAnswer (p : Point) (k : Slot) (s t : State) : Prop :=
  ∀ a, s.slot k = some a → s.slotOfSerial a.serial = some k → (s.point p).ctl.state = .calling →
    (s.point p).ctl.stage = .closed →
    let u := s.point p
    let r := s.productOf p
    let l := a.lines.get r
    let e := s.product r
    let goes (q : Point) (within : Prop) (s t : State) : Prop :=
      (within → finishes q .limit s t) ∧ (¬ within → waitsForPump q s t)
    (¬ admits a p s → t = s)
    ∧ (admits a p s → p ∈ a.delivered →
        t =
          { s with
            points :=
              s.points.set p.val
                { u with
                  ctl := { u.ctl with state := .finished, finishReason := some .alreadyDelivered, timer := none } } })
    ∧ (admits a p s → p ∉ a.delivered →
        (r ≠ .dsl → l = blankLine →
          let opened := openedSecondary r p (reservable a r) s
          let ls := secondaryLines a r opened s
          (reservable a r = 0 → finishes p .noFunds (bindsTo p k a a.lines s) t)
          ∧ (0 < reservable a r →
              ∃ m,
                (if a.lines.dsl.state = .opened then evaluates ls.dsl a.serial s.products.dsl (bindsTo p k a ls s) m
                else m = bindsTo p k a ls s)
                ∧ ((m.point p).ctl.state = .finished → t = m)
                ∧ ((m.point p).ctl.state ≠ .finished → goes p (opened.limit ≤ e.closeAhead) m t)))
        ∧ (placeOf p = .m → l = blankLine →
            let q := pointS (laneOf p)
            let alone := bindsTo p k a { a.lines with dsl := openedPrimary a [p] s } s
            let ls : Lines := { a.lines with dsl := openedPrimary a [p, q] s }
            let both := bindsTo q k { a with bound := addPoint p a.bound } ls (bindsTo p k a ls s)
            (¬ takesSatellite a p s → goes p ((openedPrimary a [p] s).limit ≤ e.closeAhead) alone t)
            ∧ (takesSatellite a p s → (s.point q).ctl.stage = .closed →
                ∃ m, goes p (ls.dsl.limit ≤ e.closeAhead) both m ∧ goes q (ls.dsl.limit ≤ e.closeAhead) m t))
        ∧ (placeOf p ≠ .m ∨ ¬ takesSatellite a p s → l.state = .opened →
            let joined := joinedLine l p
            ∃ m, evaluates joined a.serial e (bindsTo p k a (a.lines.set r joined) s) m
              ∧ (joined.remainder ≤ e.closeAhead → t = m)
              ∧ (e.closeAhead < joined.remainder → waitsForPump p m t)))

/-- A point is presented for binding to the record of slot `k`: in CALLING it takes the answer, else nothing happens
(R56). -/
def presented (p : Point) (k : Slot) (s t : State) : Prop :=
  ((s.point p).ctl.state = .calling → takesAnswer p k s t) ∧ ((s.point p).ctl.state ≠ .calling → t = s)

/-- The points of a lane are presented for binding to the record of slot `k`, in the order M, S, D (R56). -/
def lanePresented (l : Lane) (k : Slot) (s t : State) : Prop :=
  ∃ m₁ m₂, presented (pointM l) k s m₁ ∧ presented (pointS l) k m₁ m₂ ∧ presented (pointD l) k m₂ t

/-- A pump enters FAILED with a cause (R118, R97, R184): its demand set ends empty, every bound point of the set not yet
FINISHED is finished with PUMP_FAIL, a run of the set that has not come to DRAIN enters it, the alarm is raised, and
PUMP_EVENT(FAILED) is the last notice queued (behind that of the alarm: the model's choice, log 65). -/
def pumpFails (k : Pump) (cause : PumpCause) (s t : State) : Prop :=
  t = { s with
        points := t.points, pumps := t.pumps, sup := { s.sup with siteAlarms := t.sup.siteAlarms }, link := t.link }
    ∧ linkKept s t
    ∧ t.pump k = { s.pump k with state := .failed, timer := none, cause := some cause, demand := [] }
    ∧ t.runOutput k = false
    ∧ (DemandsOwn s → ∀ j, j ≠ k → t.pump j = s.pump j)
    ∧ (∀ p, p ∉ (s.pump k).demand → t.point p = s.point p)
    ∧ (∀ p ∈ (s.pump k).demand, unitKept (s.point p) (t.point p)
        ∧ ((s.point p).ctl.binding ≠ none → (s.point p).ctl.state ≠ .finished → (s.point p).ctl.state ≠ .proving →
            (t.point p).ctl.state = .finished ∧ (t.point p).ctl.finishReason = some .pumpFail
              ∧ (t.point p).ctl.stage = .closed ∧ (t.point p).ctl.binding = (s.point p).ctl.binding
              ∧ (t.point p).ctl.timer = some ⟨.drain, s.site.drainTime * 10000⟩)
        ∧ (∀ r, (s.point p).ctl.state = .proving → (s.point p).ctl.proving = some r → r.phase ≠ .drain →
            r.phase ≠ .done →
            (t.point p).ctl.proving = some { r with phase := .drain, endCause := r.endCause.or (some .pumpFail) }
              ∧ (t.point p).ctl.stage = .closed))
    ∧ (t.sup.siteAlarms.get (pumpAlarm k)).latched = true
    ∧ (s.link.notices.length ≤ 56 →
        t.link.notices.getLast? =
          some ⟨s.now, .pumpFailed k cause ((s.pump k).demand.countP fun p => (s.point p).ctl.state != .proving)⟩)

/-! ### What a tick queues (R50, R56, R60, R95, R100, R103, R114, R116, R148, R177, R184, R187) -/

/-- The command is the expiry of a timer that stands at 0, in the state it belongs to; the no-flow limit of an active,
unfrozen monitor that has reached it; or the gap timeout of a frame. -/
def comesDue (s : State) (c : Instr) : Prop :=
  match c with
  | .spinUpExpiry k => (s.pump k).timer = some ⟨.spinUp, 0⟩
  | .readyWaitExpiry k => (s.pump k).timer = some ⟨.readyWait, 0⟩
  | .runOnExpiry k => (s.pump k).timer = some ⟨.runOn, 0⟩
  | .noFlowLimit p =>
    (s.point p).monitor.active = true ∧ (s.point p).monitor.frozen = false
      ∧ (s.point p).monitor.noFlowLimit ≤ (s.point p).monitor.ticks
  | .suspensionTimerExpiry p => (s.point p).ctl.timer = some ⟨.suspension, 0⟩
  | .softStopTimerExpiry p => (s.point p).ctl.timer = some ⟨.softStop, 0⟩ ∧ (s.point p).ctl.state ≠ .proving
  | .provingTailTimerExpiry p => (s.point p).ctl.timer = some ⟨.softStop, 0⟩ ∧ (s.point p).ctl.state = .proving
  | .drainTimerExpiry p => (s.point p).ctl.timer = some ⟨.drain, 0⟩ ∧ (s.point p).ctl.state ≠ .proving
  | .provingDrainExpiry p => (s.point p).ctl.timer = some ⟨.drain, 0⟩ ∧ (s.point p).ctl.state = .proving
  | .onlineTimerExpiry k => (s.slot k).bind AuthRecord.timer = some ⟨.online, 0⟩
  | .armingTimerExpiry k => (s.slot k).bind AuthRecord.timer = some ⟨.arming, 0⟩
  | .idleCloseExpiry k => (s.slot k).bind AuthRecord.timer = some ⟨.idleClose, 0⟩
  | .reportIntervalExpiry => s.sup.reportTimer = some 0
  | .frameGapTimeout => (∃ bs, s.link.receiver = .frame bs) ∧ 100 < s.link.gap
  | _ => False

/-! ### Meter transitions -/

/-- A forward step of a point's pair: 00, 01, 11, 10 and again 00 (R123). -/
def forwardStep (before after : Pair) : Prop :=
  (before, after) ∈
    [(⟨false, false⟩, ⟨false, true⟩), (⟨false, true⟩, ⟨true, true⟩), (⟨true, true⟩, ⟨true, false⟩),
      ((⟨true, false⟩, ⟨false, false⟩) : Pair × Pair)]

/-- A transition that gives one forward count and declares no channel loss: the end of a forward cycle in NORMAL
(R124), or in DECLARED a change of the live channel from 1 to 0 (R129). -/
def countsForward (m : Meter) (after : Pair) : Prop :=
  (m.loss = .normal ∧ m.pair = ⟨true, false⟩ ∧ after = ⟨false, false⟩ ∧ m.progress = .at 3 ∧ m.runA < 15)
    ∨ (m.loss = .declared .a ∧ m.pair.a = true ∧ after.a = false ∧ after.b = m.pair.b)
    ∨ (m.loss = .declared .b ∧ m.pair.b = true ∧ after.b = false ∧ after.a = m.pair.a)

/-- A transition that gives one reverse count and declares no channel loss: the end of a reverse cycle in NORMAL
(R124). -/
def countsReverse (m : Meter) (after : Pair) : Prop :=
  m.loss = .normal ∧ m.pair = ⟨false, true⟩ ∧ after = ⟨false, false⟩ ∧ m.progress = .at (-3) ∧ m.runB < 15

/-- The noise criterion is not met by the marks a valid step leaves (R126). -/
def noiseFree (u : PointUnit) : Prop := noiseCriterionMet u.config.noise ((false :: u.meter.marks).take 256) = false

/-- A reverse count of a proving run `r` before DONE (R131, R133, R181, R184): N falls by one. The run's own bands are
read with it: the soft-stop volume ends TAIL, the start band takes SLOW to FAST. The first fall from the peak beyond the
allowance sets reverse found and the fault latch, raises REVERSE_FLOW and one REVERSE count, and a run that has not come
to DRAIN closes into it with REVERSE. -/
def reversesRun (p : Point) (r : ProvingRun) (s t : State) : Prop :=
  let u := s.point p
  let e := s.product (s.productOf p)
  let net := max (r.net - 1) (-999999999)
  let counted : ProvingRun := { r with net := net, peak := max r.peak net }
  let found := u.meter.reverseFound = false ∧ (u.config.reverseAllowance : Int) < counted.peak - net
  let stops := r.phase = .tail ∧ r.stopRef + e.softStop ≤ volumeOf u.cal net
  let starts := r.phase = .slow ∧ r.startRef + e.startBand ≤ volumeOf u.cal net
  let drains := stops ∨ (found ∧ r.phase ≠ .drain)
  let c : PointRecord :=
    if drains then
      { u.ctl with
        stage := .closed, timer := some ⟨.drain, s.site.drainTime * 10000⟩
        proving := some
          { counted with
            phase := .drain, endCause := r.endCause.or (some (if stops then .hostStop else .reverse)) } }
    else if starts then { u.ctl with stage := .fast, proving := some { counted with phase := .fast } }
    else { u.ctl with proving := some counted }
  t = { s with
        points := t.points, pumps := t.pumps, link := t.link
        sup := { s.sup with pointAlarms := t.sup.pointAlarms, counters := t.sup.counters } }
    ∧ linkKept s t ∧ othersKept p s t ∧ (t.point p).totaliser = u.totaliser
    ∧ (t.point p).meter.unauthorised = u.meter.unauthorised
    ∧ (t.point p).ctl = { c with faultLatch := u.ctl.faultLatch || decide found }
    ∧ (¬ starts → (t.point p).monitor = if drains then closedMonitor u else u.monitor)
    ∧ (starts → ¬ drains → (t.point p).monitor.settle = 0)
    ∧ (if drains then leavesDemand p s t else t.pumps = s.pumps)
    ∧ (if found then
        (t.point p).meter.reverseFound = true ∧ ((t.sup.pointAlarms[p.val]).get .reverseFlow).latched = true
          ∧ ((s.counters p).reverse < 65535 → (t.counters p).reverse = (s.counters p).reverse + 1)
      else (t.point p).meter.reverseFound = u.meter.reverseFound ∧ t.sup = s.sup)

/-- Point `p` is bound to the record `a` of slot `k`, with delivery record `d`, and is a member of its line. -/
def boundTo (p : Point) (k : Slot) (a : AuthRecord) (d : Delivery) (s : State) : Prop :=
  (∃ b, (s.point p).ctl.binding = some b ∧ s.slotOfSerial b.serial = some k ∧ b.line = d.line) ∧ s.slot k = some a
    ∧ (s.point p).ctl.delivery = some d ∧ (a.lines.get d.line).hasMember p = true

/-- A forward count leaves the stage and state of point `p` to the flow monitor: no limit, start band or soft-stop
volume is reached at it (R79, R80, R93, R95, R183, R184). The point is bound with its line's remainder `r` after the
count beyond the bands, or is in a proving run. -/
def calmCount (p : Point) (s : State) : Prop :=
  let u := s.point p
  let own := s.product (s.productOf p)
  (∃ k a d, boundTo p k a d s ∧ u.ctl.state ≠ .proving ∧
      let v := volumeOf u.cal (min (d.net + 1) 999999999)
      let l := a.lines.get d.line
      let r : Int := (l.limit : Int) - (min (memberSum (setMember p v l.members)) 9999999 : Nat)
      (l.state = .opened → (s.product d.line).closeAhead < r
          ∧ (u.ctl.state = .fast ∨ u.ctl.state = .softStart → (s.product d.line).slowDown < r))
        ∧ (u.ctl.state = .softStart → v < u.ctl.startRef + own.startBand)
        ∧ (u.ctl.state = .stopping → v < u.ctl.stopRef + own.softStop))
    ∨ (u.ctl.binding = none ∧ u.ctl.state = .proving ∧ ∃ x, u.ctl.proving = some x ∧ x.phase ≠ .done
        ∧ (x.phase = .slow → volumeOf u.cal (min (x.net + 1) 999999999) < x.startRef + own.startBand)
        ∧ (x.phase = .tail → volumeOf u.cal (min (x.net + 1) 999999999) < x.stopRef + own.softStop))

/-- The monitor of unit `u` at the end of a window (R145, R146, R151): `period` ticks for its pulses give the rate, and
the next window begins. -/
def nextWindow (u : PointUnit) (period : Nat) : Monitor :=
  let m := u.monitor
  let rate := min (m.size * 6000000000000 / (meterFactor u.cal * period)) 65534
  { m with
    count := 0, ticks := 0, size := windowSize u.config.window, noFlowLimit := u.config.noFlowTime * 10000
    latest := rate, peak := max m.peak rate, minimum := min m.minimum rate, settle := min (m.settle + 1) 3
    reference := some period }

/-! ### How a record settles, and how a card read is accepted -/

/-- The record `a` of slot `k` settles with an end reason (R158): its lines close as R85 gives, its serial joins the
tail of the sale queue, its card's history entry takes the DSL and RFR volumes and moves to the front (R37),
SALE_READY is queued (R162), and nothing else of the part changes. -/
def settles (k : Slot) (a : AuthRecord) (r : RecordEnd) (s t : State) : Prop :=
  t = { s with auth := t.auth, screening := { s.screening with history := t.screening.history }, link := t.link }
    ∧ linkKept s t ∧ slotsKept k s t
    ∧ t.slot k = some
      { a with
        state := .settled, timer := none, endReason := some r, settledAt := some s.now, bound := []
        lines :=
          { a.lines with
            dsl := if a.lines.dsl.state = .opened then { a.lines.dsl with state := .final } else a.lines.dsl } }
    ∧ t.auth.serial = s.auth.serial ∧ t.auth.sales = s.auth.sales ++ [a.serial]
    ∧ (∀ e, s.historyOf a.card = some e →
        t.screening.history =
          { e with volume := min (e.volume + (a.lines.dsl.volume + a.lines.rfr.volume)) 9999999, lastUse := s.now }
            :: s.screening.history.filter fun e => e.card != a.card)
    ∧ (s.link.notices.length < 64 →
        t.link.notices = s.link.notices ++
          [⟨s.now, .saleReady a.serial a.lane (some r)
            (min (a.lines.dsl.amount + a.lines.rfr.amount + a.lines.defl.amount) 9999999)⟩])

/-- A CARD PRESENTED whose structure, amount and prompts pass the checks made before screening (R25, R46), with what it
carries. -/
def readsAs (f : CardPresentedF) (r : CardRead) : Prop :=
  ∃ present, readCardStructure f = some (r.card, r.expiry, present) ∧ amountOutOfRange present f.amount = false
    ∧ checkPrompts f.prompts = .accepted r.prompts ∧ r.lane = f.lane ∧ r.restriction = f.restriction.toNat
    ∧ r.amount = if present then some f.amount.toNat else none

/-- Screening steps 1 to 3 pass for a lane (R46): the ESTOP latch clear, the lane enabled and without a live record, a
slot FREE. -/
def laneReady (r : CardRead) (l : Lane) (s : State) : Prop :=
  s.sup.estopLatch = false ∧ readLane r.lane = some l ∧ (s.lane l).enabled = true ∧ s.liveSlot l = none
    ∧ ∃ k, s.slot k = none

/-- Screening steps 4 to 11 pass (R26, R30, R35, R47): format, expiry, hot list, profile, products, card in use,
velocity, lockout, prompts and odometer. `x.entry` is the card's history entry as step 10 leaves it (R33). -/
def screensAs (r : CardRead) (x : Screened) (s : State) : Prop :=
  formatOk r = true ∧ r.expiry.past s.clock.business = false ∧ hotMember s.screening.hotList r.card = false
    ∧ profileCheck s.screening (s.lane x.lane).tier r.card = .selected x.index
    ∧ x.profile = s.screening.profiles[x.index.val]
    ∧ x.allowed = (x.profile.products.inter (restrictionSet r.restriction)).inter (s.lane x.lane).products
    ∧ x.allowed.isEmpty = false ∧ s.slotOfCard r.card = none
    ∧ x.entry = (match s.historyOf r.card with
        | some e => { e with lastUse := s.now }
        | none => newEntry r.card s.now)
    ∧ historyDecline x.profile x.entry = none
    ∧ (missingSet (requiredSet x.profile x.allowed) r.prompts).isEmpty = true
    ∧ ((requiredSet x.profile x.allowed).odometer = true →
        readingPasses x.profile.predicate x.profile.window ((enteredOdometer r.prompts).getD 0) x.entry.lastOdometer
          = true)

/-- The history step of a card read (R33, R34), with what follows at the card's entry: the list has the entry `e` of
the card at its front, and behind it the other entries in their order; a card that had no entry takes the place of the
unpinned entry nearest the back where the list is full. -/
def entersHistory (c : CardNumber) (e : HistoryEntry) (s t : State) : Prop :=
  let l := s.screening.history
  let kept (x : HistoryEntry) : Prop := s.slotOfCard x.card ≠ none
  e.card = c ∧ e.lastUse = s.now
    ∧ (s.historyOf c ≠ none → t.screening.history = e :: l.filter fun x => x.card != c)
    ∧ (s.historyOf c = none → l.length < 256 → t.screening.history = e :: l)
    ∧ (s.historyOf c = none → l.length = 256 → (∃ x ∈ l, ¬ kept x) →
        ∃ front back x, l = front ++ x :: back ∧ ¬ kept x ∧ (∀ y ∈ back, kept y)
          ∧ t.screening.history = e :: (front ++ back))

/-- The entry `i` of the profile table is the one a card selects (R10): the first valid entry whose range holds its
first ten digits. -/
def picks (i : Fin 64) (c : CardNumber) (s : State) : Prop :=
  let holds (j : Fin 64) : Prop :=
    s.screening.profiles[j.val].rangeLow ≤ c.prefix10 ∧ c.prefix10 ≤ s.screening.profiles[j.val].rangeHigh
  i.val < s.screening.valid ∧ holds i ∧ ∀ j : Fin 64, j.val < i.val → ¬ holds j

/-- The entry of a card as its history step finds it (R33, R34). -/
def entryOf (c : CardNumber) (s : State) : HistoryEntry :=
  match s.historyOf c with
  | some e => { e with lastUse := s.now }
  | none => ⟨c, 0, 0, none, 0, s.now⟩

/-- Steps 4 to 6 of screening pass (R47): format, expiry and hot list. -/
def formatPasses (r : CardRead) (s : State) : Prop :=
  formatOk r = true ∧ r.expiry.past s.clock.business = false ∧ HotListOrdered s ∧ r.card ∉ s.screening.hotList

/-- The products a card read may take on a lane under a profile (R13, R47 step 8). -/
def allowedOn (r : CardRead) (e : Profile) (l : Lane) (s : State) : ProductSet :=
  (e.products.inter (restrictionSet r.restriction)).inter (s.lane l).products

/-- A packed field of `places` nibbles writes `count` digits of 0 to 9, and 0xF in each nibble after them (R194). -/
def digitsSound (places value count : Nat) : Prop :=
  ∀ i < places, if i < count then nibbleAt places value i ≤ 9 else nibbleAt places value i = 15

/-- A card number as R194 admits it. -/
def cardSound (w : CardWire) : Prop := w.count.toNat ≤ 20 ∧ digitsSound 20 w.bcd.toNat w.count.toNat

/-! ### What a restart does with what was in progress (R111, R161, R166, R186) -/

/-- Point `p` holds, for the record of slot `k`, a delivery that no merge has ended. -/
def opensAt (k : Slot) (s : State) (p : Point) : Bool :=
  s.boundSlot p == some k && (s.point p).ctl.delivery.any fun d => !d.final

/-- The line of the delivery of a point. -/
def lineOf (s : State) (p : Point) : Option Product := (s.point p).ctl.delivery.map Delivery.line

/-- The volume of the counts that the delivery of a point has retained (R137). -/
def retainedVolume (s : State) (p : Point) : Nat :=
  match (s.point p).ctl.delivery with
  | some d => volumeOf (s.point p).cal d.net
  | none => 0

/-- The delivery of a point as a restart merges it: a delivery not yet FINISHED ends with reason `e` (R111). -/
def mergedDelivery (e : EndReason) (s : State) (p : Point) (d : Delivery) : Delivery :=
  { d with
    volume := retainedVolume s p, endReason := some (d.endReason.getD e), backLink := none, final := true }

/-- The entry that the delivery of a point takes in its record's delivery list (R159). -/
def retainedEntry (e : EndReason) (s : State) (p : Point) : Option DeliveryEntry :=
  (s.point p).ctl.delivery.map fun d =>
    ⟨p, d.line, retainedVolume s p, d.endReason.getD e, d.start, d.degraded, d.sat⟩

/-- A totaliser raised by a volume, held at its bound (R140). -/
def raised (total volume : Nat) : Nat := max total (min (total + volume) 18446744073709551615)

/-- What a restart makes of a point's totaliser and delivery record: the totaliser rises by the volume of a run not
yet totalised (R186) and by that of a bound delivery not yet final, which becomes final (R111). -/
def restartsPoint (e : EndReason) (p : Point) (s t : State) : Prop :=
  let u := s.point p
  let run :=
    match u.ctl.proving with
    | some r => if r.totalised then 0 else volumeOf u.cal r.net
    | none => 0
  let opens := ∃ k, opensAt k s p = true
  (opens → (t.point p).totaliser = raised (raised u.totaliser run) (retainedVolume s p)
      ∧ (t.point p).ctl.delivery = u.ctl.delivery.map (mergedDelivery e s p))
    ∧ (¬ opens → (t.point p).totaliser = raised u.totaliser run ∧ (t.point p).ctl.delivery = u.ctl.delivery)

/-- The sale `b` that a restart makes of a record `a` in DELIVERING or IDLE_OPEN, the deliveries of the points `ps`
merged in this order (R64, R85, R104, R111, R159): each takes its entry in the delivery list, and each that is a member
of its line fixes its volume there. A secondary line so merged is FINAL (R76); its overrun is formed (R78). -/
def restartsRecord (ps : List Point) (a b : AuthRecord) (r : RecordEnd) (e : EndReason) (now : Time) (s : State) :
    Prop :=
  b = { a with
        state := .settled, timer := none, endReason := some r, settledAt := some now, bound := []
        delivered := b.delivered, deliveries := a.deliveries ++ ps.filterMap (retainedEntry e s), lines := b.lines
        flags := { a.flags with overHold := b.flags.overHold, sat := b.flags.sat } }
    ∧ (∀ q, q ∈ b.delivered ↔ q ∈ a.delivered ∨ q ∈ ps)
    ∧ (a.flags.overHold = true → b.flags.overHold = true) ∧ (a.flags.sat = true → b.flags.sat = true)
    ∧ (ps ≠ [] → b.hold.getD 0 < b.lines.dsl.amount + b.lines.rfr.amount + b.lines.defl.amount → b.flags.overHold = true)
    ∧ ∀ x : Product,
      let l := a.lines.get x
      let m := b.lines.get x
      let merged := ps.filter fun p => lineOf s p == some x && l.hasMember p
      m.price = l.price
        ∧ m.members = merged.foldl (fun ms p => setMember p (retainedVolume s p) ms) l.members
        ∧ (merged ≠ [] → m.volume = min (memberSum m.members) 9999999 ∧ m.amount = amountOf m.volume (l.price.getD 0))
        ∧ (merged = [] → m.volume = l.volume ∧ m.amount = l.amount ∧ m.overrun = l.overrun)
        ∧ (x = .dsl → l.state = .opened → m.state = .final)
        ∧ (x = .dsl → merged ≠ [] → (∀ p ∈ ps, lineOf s p = some .dsl) → m.limit = l.limit
            ∧ m.overrun = m.volume - l.limit)
        ∧ (x ≠ .dsl → merged = [] → m = l)
        ∧ (x ≠ .dsl → merged ≠ [] → m.state = .final ∧ m.overrun = m.volume - l.limit
            ∧ (merged.length = 1 → m.reservation = min m.amount l.reservation))

/-- The SALE_READY notice of the sale of a serial (R162). -/
def saleNotice (s : State) (n : Nat) : Option Notice :=
  ((s.slotOfSerial n).bind s.slot).map fun b =>
    ⟨s.now, .saleReady n b.lane b.endReason (min (b.lines.dsl.amount + b.lines.rfr.amount + b.lines.defl.amount) 9999999)⟩

/-- Slot `j` goes before slot `k` where a restart settles both: by time created, and where these are equal by slot
(R161). -/
def settlesBefore (s : State) (j k : Slot) : Prop :=
  ∀ a b, s.slot j = some a → s.slot k = some b →
    b.created.before a.created = false ∧ (a.created = b.created → j.val < k.val)

/-- The sale queue and the notices as a restart leaves them (R161, R162, R166): the records it settles join the tail
in order, and behind RESTARTED stands a SALE_READY for every sale, from head to tail; no POINT_EVENT(FINAL) is queued. -/
def restartsQueues (s t : State) : Prop :=
  (∃ ks : List Slot, ks.Nodup ∧ ks.Pairwise (settlesBefore s)
      ∧ (∀ k, k ∈ ks ↔ ∃ a, s.slot k = some a ∧ (a.state = .delivering ∨ a.state = .idleOpen))
      ∧ t.auth.sales = s.auth.sales ++ ks.filterMap fun k => (s.slot k).map AuthRecord.serial)
    ∧ (t.auth.sales.length ≤ 24 → t.auth.sales.filterMap (saleNotice t) <+: t.link.notices.tail)
    ∧ ((∀ k a, s.slot k = some a → a.state = .settled ∨ a.state = .delivering ∨ a.state = .idleOpen →
          s.slotOfSerial a.serial = some k) →
        (∀ n ∈ s.auth.sales, ∃ k a, s.slot k = some a ∧ a.state = .settled ∧ a.serial = n) →
        ∀ n ∈ t.auth.sales, (saleNotice t n).isSome = true)
    ∧ ∀ x ∈ t.link.notices, ∀ p n r v e, x.body ≠ .pointFinal p n r v e

/-! ### Groups of commands -/

/-- The kind code of a request (12 §12.5); 0 for a command that is none, and for UNKNOWN_REQUEST. -/
def kindOf (i : Instr) : Byte :=
  match i with
  | .status _ _ => 0x01
  | .nextNotice _ _ => 0x02
  | .cardPresented _ _ => 0x10
  | .onlineResult _ _ => 0x11
  | .acquirerState _ _ => 0x12
  | .cancelAuth _ _ => 0x13
  | .authRead _ _ => 0x14
  | .pointRead _ _ => 0x20
  | .pointStats _ _ => 0x21
  | .stopPoint _ _ => 0x22
  | .suspendPoint _ _ => 0x23
  | .resumePoint _ _ => 0x24
  | .faultClear _ _ => 0x25
  | .saleFetch _ _ => 0x28
  | .saleClear _ _ => 0x29
  | .profileWrite _ _ => 0x30
  | .profileRead _ _ => 0x31
  | .profileCount _ _ => 0x32
  | .hotlistAdd _ _ => 0x33
  | .hotlistRemove _ _ => 0x34
  | .hotlistClear _ _ => 0x35
  | .hotlistQuery _ _ => 0x36
  | .historyRead _ _ => 0x37
  | .dayClose _ _ => 0x38
  | .clockSet _ _ => 0x39
  | .laneConfig _ _ => 0x40
  | .pointConfig _ _ => 0x41
  | .productConfig _ _ => 0x42
  | .siteConfig _ _ => 0x43
  | .pumpReset _ _ => 0x48
  | .siteResume _ _ => 0x49
  | .alarmMask _ _ => 0x4A
  | .alarmClear _ _ => 0x4B
  | .countersRead _ _ => 0x4C
  | .proveStart _ _ => 0x50
  | .proveStop _ _ => 0x51
  | .proveResult _ _ => 0x52
  | .calLogRead _ _ => 0x53
  | .totalsRead _ _ => 0x54
  | .reset _ _ => 0x7F
  | .frameByteReceived _ _ | .frameGapTimeout | .replySent | .unknownRequest _ _ | .coldStart _ _ | .warmRestart _ _
  | .nozzleLift _ | .hangUp _ | .meterTransition _ _ _ | .noFlowLimit _ | .estopAssertion | .estopDeassertion
  | .calEnAssertion | .calEnDeassertion | .readyAssertion _ | .readyDeassertion _ | .onlineTimerExpiry _
  | .armingTimerExpiry _ | .idleCloseExpiry _ | .softStopTimerExpiry _ | .suspensionTimerExpiry _
  | .drainTimerExpiry _ | .spinUpExpiry _ | .readyWaitExpiry _ | .runOnExpiry _ | .reportIntervalExpiry
  | .provingTailTimerExpiry _ | .provingDrainExpiry _ => 0

/-- A request: its kind code is in the table. -/
def isRequest (i : Instr) : Bool := kindOf i != 0

/-- The three requests broadcast admits: ACQUIRER STATE, DAY CLOSE, CLOCK SET (R188). -/
def admitsBroadcast (i : Instr) : Bool := kindOf i == 0x12 || kindOf i == 0x38 || kindOf i == 0x39

/-- The requests that change no state but the link's reply: AUTH READ, POINT READ, SALE FETCH, PROFILE READ, HOTLIST
QUERY, HISTORY READ, CAL LOG READ and TOTALS READ (R7, R23, R40, R65, R110, R141, R164, R179). -/
def onlyReads (i : Instr) : Bool :=
  [0x14, 0x20, 0x28, 0x31, 0x36, 0x37, 0x53, 0x54].contains (kindOf i).toNat

/-- The body of a request is of the wrong length. -/
def wrongLength (i : Instr) : Bool :=
  match i with
  | .status _ .wrongLength | .nextNotice _ .wrongLength | .cardPresented _ .wrongLength | .onlineResult _ .wrongLength
  | .acquirerState _ .wrongLength | .cancelAuth _ .wrongLength | .authRead _ .wrongLength | .pointRead _ .wrongLength
  | .pointStats _ .wrongLength | .stopPoint _ .wrongLength | .suspendPoint _ .wrongLength
  | .resumePoint _ .wrongLength | .faultClear _ .wrongLength | .saleFetch _ .wrongLength | .saleClear _ .wrongLength
  | .profileWrite _ .wrongLength | .profileRead _ .wrongLength | .profileCount _ .wrongLength
  | .hotlistAdd _ .wrongLength | .hotlistRemove _ .wrongLength | .hotlistClear _ .wrongLength
  | .hotlistQuery _ .wrongLength | .historyRead _ .wrongLength | .dayClose _ .wrongLength | .clockSet _ .wrongLength
  | .laneConfig _ .wrongLength | .pointConfig _ .wrongLength | .productConfig _ .wrongLength
  | .siteConfig _ .wrongLength | .pumpReset _ .wrongLength | .siteResume _ .wrongLength | .alarmMask _ .wrongLength
  | .alarmClear _ .wrongLength | .countersRead _ .wrongLength | .proveStart _ .wrongLength | .proveStop _ .wrongLength
  | .proveResult _ .wrongLength | .calLogRead _ .wrongLength | .totalsRead _ .wrongLength | .reset _ .wrongLength =>
    true
  | _ => false

/-- The serial after a serial: 1 follows 65,535 (R43). -/
def serialAfter (n : Nat) : Nat := if n < 65535 then n + 1 else 1

/-- The bytes of a run, each received with its stop bit, one command after the other. -/
def feed : List Byte → State → Out
  | [], s => .next s
  | b :: bs, s =>
    match exec (.frameByteReceived b true) s with
    | .next t => feed bs t
    | other => other

end Sys2Proof.Safety
end

