-- ==== Sys2Proof/WellFormed.lean ====
section
/-! DEFINITION. WellFormed.lean: the commands that stand for something the part can be sent. The types of the operands
hold their widths and ranges; what remains is that a body of variable length fits a frame (R187) and that
UNKNOWN_REQUEST carries a kind that names no request (R188). -/

namespace Sys2Proof

/-- CARD PRESENTED: kind byte, 21 bytes and 6 for each prompt fit a body of 240. -/
def promptsFit (f : CardPresentedF) : Bool := decide (22 + 6 * f.prompts.length ≤ Config.maxBody)

/-- ONLINE RESULT: kind byte, 15 bytes and the reference fit a body of 240. -/
def referenceFits (f : OnlineResultF) : Bool := decide (16 + f.reference.length ≤ Config.maxBody)

/-- A kind that names no request (R188). -/
def isUnknownKind (kind : Byte) : Bool := !requestKinds.contains kind.toNat

/-- A well-formed command. -/
def Instr.wellFormed (i : Instr) : Bool :=
  match i with
  | .cardPresented _ (.fields f) => promptsFit f
  | .onlineResult _ (.fields f) => referenceFits f
  | .unknownRequest _ kind => isUnknownKind kind
  | .cardPresented _ .wrongLength | .onlineResult _ .wrongLength => true
  | .frameByteReceived _ _ | .frameGapTimeout | .replySent | .status _ _ | .nextNotice _ _ | .acquirerState _ _
  | .cancelAuth _ _ | .authRead _ _ | .pointRead _ _ | .pointStats _ _ | .stopPoint _ _ | .suspendPoint _ _
  | .resumePoint _ _ | .faultClear _ _ | .saleFetch _ _ | .saleClear _ _ | .profileWrite _ _ | .profileRead _ _
  | .profileCount _ _ | .hotlistAdd _ _ | .hotlistRemove _ _ | .hotlistClear _ _ | .hotlistQuery _ _
  | .historyRead _ _ | .dayClose _ _ | .clockSet _ _ | .laneConfig _ _ | .pointConfig _ _ | .productConfig _ _
  | .siteConfig _ _ | .pumpReset _ _ | .siteResume _ _ | .alarmMask _ _ | .alarmClear _ _ | .countersRead _ _
  | .proveStart _ _ | .proveStop _ _ | .proveResult _ _ | .calLogRead _ _ | .totalsRead _ _ | .reset _ _
  | .coldStart _ _ | .warmRestart _ _ | .nozzleLift _ | .hangUp _ | .meterTransition _ _ _ | .noFlowLimit _
  | .estopAssertion | .estopDeassertion | .calEnAssertion | .calEnDeassertion | .readyAssertion _
  | .readyDeassertion _ | .onlineTimerExpiry _ | .armingTimerExpiry _ | .idleCloseExpiry _
  | .softStopTimerExpiry _ | .suspensionTimerExpiry _ | .drainTimerExpiry _ | .spinUpExpiry _
  | .readyWaitExpiry _ | .runOnExpiry _ | .reportIntervalExpiry | .provingTailTimerExpiry _
  | .provingDrainExpiry _ => true

end Sys2Proof
end

