-- ==== Sys2Proof/Certificates/Slice0/Obligations.lean ====
section
/-! DEFINITION. Certificates/Slice0/Obligations.lean: the statements for the provers. Each docstring names the rule it
formalises, or the log entry of the model's choice it states. A request is an accepted frame, and acts whatever the
receiver held before it: the model's choice of log 1, on which every statement about a request rests. A statement names a reply by its data; the bytes of its frame
are those of Machine/Layout.lean, with the marks it names (logs 14, 53, 54, 57, 59, 61, 63, 68), and ClockSetAndDayClose
alone writes them out. -/

open Sys2Proof Sys2Proof.Machine Sys2Proof.Safety

/-! ### The block, its clock and its reset -/

/-- A step takes the command at the front of the queue and runs it on the state with the queue's rest. -/
def Obligations.StepTakesFront : Prop :=
  ∀ (c : Instr) (rest : List Instr) (s : State),
    step { s with pending := c :: rest } = exec c { s with pending := rest }

/-- The model's choice of log 2: while no command waits, a step is one tick of the 100 µs time base. Every running
timer of points, pumps, records and reports loses one tick, T of an active unfrozen monitor rises to its limit and no
further (R145), the gap inside a frame grows, the RTC moves on at the end of a second, counted in ticks (log 12), and
rolls to the next date at the end of second 86,399 (R192; which day follows a site date: log 13). The expiry of every
timer that stands at 0, the no-flow limit of every monitor that has reached it, and the gap timeout of a frame (log 42)
are put into the queue, each once, and nothing else is (log 3). -/
def Obligations.EmptyQueueTicks : Prop :=
  ∀ s : State, s.pending = [] →
    ∃ t, step s = .next t
      ∧ t = { s with
                clock := t.clock, points := t.points, pumps := t.pumps, auth := { s.auth with slots := t.auth.slots }
                link := { s.link with gap := t.link.gap }, pending := t.pending
                sup := { s.sup with reportTimer := s.sup.reportTimer.map (· - 1) } }
      ∧ t.clock.business = s.clock.business
      ∧ (s.clock.phase < 9999 → t.clock.rtc = s.clock.rtc ∧ t.clock.phase = s.clock.phase + 1)
      ∧ (9999 ≤ s.clock.phase → t.clock.phase = 0
          ∧ t.clock.rtc =
            if s.clock.rtc.second < 86399 then ⟨s.clock.rtc.date, s.clock.rtc.second + 1⟩
            else ⟨s.clock.rtc.date.next, 0⟩)
      ∧ (∀ p, unitKept (s.point p) (t.point p)
          ∧ (t.point p).ctl =
            { (s.point p).ctl with timer := (s.point p).ctl.timer.map fun x => { x with left := x.left - 1 } }
          ∧ (t.point p).monitor =
            { (s.point p).monitor with
              ticks :=
                if (s.point p).monitor.active = true ∧ (s.point p).monitor.frozen = false then
                  min ((s.point p).monitor.ticks + 1) (s.point p).monitor.noFlowLimit
                else (s.point p).monitor.ticks })
      ∧ (∀ k, t.pump k = { s.pump k with timer := (s.pump k).timer.map fun x => { x with left := x.left - 1 } })
      ∧ (∀ k, t.slot k =
          (s.slot k).map fun a => { a with timer := a.timer.map fun x => { x with left := x.left - 1 } })
      ∧ (∀ bs, s.link.receiver = .frame bs → t.link.gap = s.link.gap + 1)
      ∧ (s.link.receiver = .hunt ∨ s.link.receiver = .reply → t.link.gap = s.link.gap)
      ∧ (∀ c, c ∈ t.pending ↔ comesDue t c) ∧ t.pending.Nodup

/-- The part as delivered: what the rules give for each block right after the first cold start. With every input
deasserted there (the model's choice, log 9) the ESTOP latch is clear, no alarm flag is latched, and RESTARTED is the
one notice. -/
def Obligations.ResetValues : Prop :=
  let s := State.reset
  (∀ k, s.slot k = none) ∧ s.auth.serial = 0 ∧ s.auth.sales = []
    ∧ s.screening.valid = 0 ∧ s.screening.hotList = [] ∧ s.screening.history = []
    ∧ (∀ i : Fin 64, s.screening.profiles[i.val] =
        { rangeLow := 0, rangeHigh := 0, cls := .fleet, active := false, tier := 0, allLanes := false,
          products := ⟨true, false, false⟩, prompts := ⟨false, false, false, false⟩, predicate := 0, window := 1,
          onlineMode := .alwaysOnline, onlineTimeout := 25, floorLimit := 0, preAuth := 1, defCap := 0, rfrCap := 0,
          maxAuths := 0, dailyCap := 0 })
    ∧ s.products = ⟨⟨99999, 300, 2000, 150, 200, 1000⟩, ⟨99999, 300, 1000, 100, 200, 1000⟩,
        ⟨99999, 100, 300, 40, 50, 200⟩⟩
    ∧ (∀ l, s.lane l = ⟨false, 0, true, .dsl, true⟩)
    ∧ s.site.armingTime = 180 ∧ s.site.idleCloseTime = 90 ∧ s.site.deliveryMax = 1500000
    ∧ s.site.softStopTime = 3 ∧ s.site.drainTime = 3 ∧ s.site.suspensionLimit = 120
    ∧ (∀ k, s.pumpSettings k = ⟨false, 20, 10, 10⟩) ∧ s.site.reportMode = .manual ∧ s.site.reportInterval = 900
    ∧ (∀ p, (s.point p).ctl.state = .idle ∧ (s.point p).ctl.stage = .closed ∧ (s.point p).ctl.binding = none
        ∧ (s.point p).ctl.stopPending = none ∧ (s.point p).ctl.timer = none
        ∧ (s.point p).cal = ⟨100, 0⟩ ∧ (s.point p).totaliser = 0
        ∧ (s.point p).config = ⟨.strict, 20, 1, 30, 3, true⟩
        ∧ (s.point p).monitor.active = false ∧ (s.point p).monitor.peak = 0 ∧ (s.point p).monitor.minimum = 65535
        ∧ (s.point p).meter.loss = .normal ∧ (s.point p).meter.noiseMet = false ∧ (s.point p).meter.marks = []
        ∧ (s.point p).meter.unauthorised = 0)
    ∧ (∀ k, (s.pump k).state = .stopped ∧ (s.pump k).demand = [] ∧ (s.pump k).timer = none
        ∧ (s.pump k).cause = none)
    ∧ (∀ (p : Point) (k : PointAlarm), (s.sup.pointAlarms[p.val]).get k = ⟨false, true, .rise, false⟩)
    ∧ (∀ k, s.sup.siteAlarms.get k = ⟨false, true, .rise, false⟩)
    ∧ (∀ p, s.counters p = ⟨0, 0, 0, 0, 0, 0⟩) ∧ s.sup.snapshotTime = none
    ∧ s.sup.estopLatch = false ∧ s.sup.noticeBlock = false
    ∧ s.cal.counter = 0 ∧ s.cal.log = []
    ∧ s.clock.rtc = ⟨⟨2000, 1, 1⟩, 0⟩ ∧ s.clock.business = ⟨2000, 1, 1⟩
    ∧ s.link.receiver = .hunt ∧ s.link.acquirerUp = true ∧ s.link.overflow = false ∧ s.link.lastTaken = none
    ∧ s.link.notices.map Notice.body = [.restarted .cold 0 0] ∧ s.pending = []

/-- The reset state keeps every law the statements below carry through a step. -/
def Obligations.ResetMeetsLaws : Prop :=
  HotListOrdered State.reset ∧ HistoryHeld State.reset ∧ OneLiveRecord State.reset ∧ NoticesHeld State.reset
    ∧ CalibrationHeld State.reset ∧ CountsHeld State.reset ∧ HoldsKept State.reset ∧ ValvesSafe State.reset
    ∧ OpenOnRunningPump State.reset ∧ DemandsOwn State.reset

/-! ### Laws that every step keeps -/

/-- R16: the hot list stays strictly ascending, without duplicates and within 1,024 entries. -/
def Obligations.HotListStaysOrdered : Prop :=
  ∀ s t : State, HotListOrdered s → step s = .next t → HotListOrdered t

/-- R32: the card history holds each card number at most once, at most 256 entries, and an entry for every card with a
live record. -/
def Obligations.HistoryStaysHeld : Prop :=
  ∀ s t : State, HistoryHeld s → step s = .next t → HistoryHeld t

/-- R44: each lane has at most one live record, and a card number appears in at most one. -/
def Obligations.OneLiveRecordStays : Prop :=
  ∀ s t : State, OneLiveRecord s → step s = .next t → OneLiveRecord t

/-- R136, R140, R179, R190: calibration records stay in range, the calibration log within 32 entries and its counter
within 65,535; no totaliser and not that counter ever decreases; and the notice queue stays within 64. -/
def Obligations.StoresStayHeld : Prop :=
  ∀ s t : State, CalibrationHeld s → step s = .next t →
    CalibrationHeld t ∧ (∀ p, (s.point p).totaliser ≤ (t.point p).totaliser) ∧ s.cal.counter ≤ t.cal.counter
      ∧ (NoticesHeld s → NoticesHeld t)

/-- R132, R181: every net count stays within its bounds and at or below its peak. -/
def Obligations.CountsStayHeld : Prop :=
  ∀ s t : State, CountsHeld s → step s = .next t → CountsHeld t

/-- R69: what the secondary lines of a record count stays within its hold, and an OPEN primary line has the rest of the
hold as its allowance exactly. -/
def Obligations.HoldsStayKept : Prop :=
  ∀ s t : State, HoldsKept s → step s = .next t → HoldsKept t

/-- R87, R88, R168: every valve follows its point's state, every delivering point is bound, and while the ESTOP latch
is set no point can open its valve and no record admits a binding; so no step leaves a valve stage energised while the
latch is set. -/
def Obligations.ValvesStaySafe : Prop :=
  ∀ s t : State, ValvesSafe s → step s = .next t →
    ValvesSafe t ∧ (t.sup.estopLatch = true → ∀ p, (t.point p).ctl.stage = .closed)

/-- R88, R115: no valve stage is energised unless the pump of its product is RUNNING. A LANE CONFIG can change the
product of an S point: it must leave it as it is, or find the point in no pump's demand. A byte can end the frame of
one, so a step that takes a byte is left out. -/
def Obligations.OpenValvesKeepRunningPumps : Prop :=
  ∀ s t : State, ValvesSafe s → OpenOnRunningPump s → DemandsOwn s →
    (∀ c rest, s.pending = c :: rest → (∀ b x, c ≠ .frameByteReceived b x)
      ∧ ∀ d f (l : Lane), c = .laneConfig d (.fields f) → f.lane.toNat = l.val + 1 →
        readSProduct f.sProduct = some (s.lane l).sProduct ∨ ∀ k, pointS l ∉ (s.pump k).demand) →
    step s = .next t → OpenOnRunningPump t ∧ DemandsOwn t

/-- R165: a SETTLED record to which no point is bound stays with its figures through every step but that of a SALE
CLEAR, or of a byte that may end the frame of one; a late decline may set its flag (R163). -/
def Obligations.SettledRecordsStay : Prop :=
  ∀ (s t : State) (k : Slot) (a : AuthRecord), s.slot k = some a → a.state = .settled →
    (∀ p b, (s.point p).ctl.binding = some b → b.serial ≠ a.serial) →
    (∀ c rest, s.pending = c :: rest → (∀ d b, c ≠ .saleClear d b) ∧ ∀ b x, c ≠ .frameByteReceived b x) →
    step s = .next t →
    ∃ b, t.slot k = some b
      ∧ b = { a with flags := { a.flags with lateDecline := b.flags.lateDecline }, timer := b.timer }

/-! ### Frames -/

/-- R194: the body of a request, encoded and read back, is the request with every field, for every field value. -/
def Obligations.FrameRoundTrip : Prop :=
  ∀ (i : Instr) (bs : List Byte), i.wellFormed = true → encodeBody i = some bs → decodeBody i.dest bs = i

/-- R187, R188: the bytes of a request's frame, received one after the other from HUNT, are taken as that request; the
address is this station's or 0. -/
def Obligations.FrameIsTaken : Prop :=
  ∀ (i : Instr) (bs : List Byte) (address : Byte) (s : State), i.wellFormed = true → encodeBody i = some bs →
    s.link.receiver = .hunt → frameDest s.link.station address = some i.dest →
    feed (frameBytes address bs) s = exec i { s with link := { s.link with gap := 0 } }

/-- R187, R188: the receiver. In REPLY a byte is discarded; in HUNT 0x02 starts a frame and any other byte is
discarded; a missing stop bit or a gap abandons a frame; REPLY ends with the last reply byte. A frame is discarded
without reply, all else as it was, where its CRC does not match or its address is neither this station's nor 0, and at
a length byte of 0 or above 240; the CRC of 123456789 is 0x29B1. An unknown kind is answered UNKNOWN_REQUEST, its kind
with 0x80 added modulo 256 (DEDUCED of a kind of 0x80 or above, log 15); the line driver is enabled in REPLY alone,
while a reply is sent. In HUNT a byte with a missing stop bit is discarded (the model's choice, log 40). R193: RESET
is answered OK, and when that reply has left the line a warm restart with cause RESET_REQUEST follows, with the inputs
as they stand; the model runs it in the step of the last reply byte (the model's choice, log 7). -/
def Obligations.LinkEvents : Prop :=
  ∀ (s : State) (byte kind : Byte) (stop : Bool),
    (s.link.receiver = .reply → exec (.frameByteReceived byte stop) s = .next s)
    ∧ (s.link.receiver = .hunt → stop = true → byte = 0x02 →
        exec (.frameByteReceived byte stop) s =
          .next { s with link := { s.link with receiver := .frame [], gap := 0 } })
    ∧ (s.link.receiver = .hunt → stop = false ∨ byte ≠ 0x02 → exec (.frameByteReceived byte stop) s = .next s)
    ∧ (∀ bs, s.link.receiver = .frame bs →
        exec (.frameByteReceived byte false) s = .next { s with link := { s.link with receiver := .hunt, gap := 0 } }
        ∧ exec .frameGapTimeout s = .next { s with link := { s.link with receiver := .hunt, gap := 0 } })
    ∧ (s.link.receiver = .hunt ∨ s.link.receiver = .reply → exec .frameGapTimeout s = .next s)
    ∧ (∀ (address hi lo : Byte) (body : List Byte), s.link.receiver = .hunt → 1 ≤ body.length → body.length ≤ 240 →
        let covered := address :: BitVec.ofNat 8 body.length :: body
        crc16 covered ≠ hi ++ lo ∨ (address ≠ 0 ∧ address.toNat ≠ s.link.station.toNat) →
        feed (0x02 :: covered ++ [hi, lo]) s = .next { s with link := { s.link with gap := 0 } })
    ∧ (∀ address length : Byte, s.link.receiver = .hunt → length = 0 ∨ 240 < length.toNat →
        feed [0x02, address, length] s = .next { s with link := { s.link with gap := 0 } })
    ∧ crc16 [0x31, 0x32, 0x33, 0x34, 0x35, 0x36, 0x37, 0x38, 0x39] = 0x29B1
    ∧ (s.link.receiver = .reply → s.resetPending = false →
        exec .replySent s = .next { s with link := { s.link with receiver := .hunt, reply := none } })
    ∧ (s.link.receiver ≠ .reply → exec .replySent s = .next s)
    ∧ exec (.unknownRequest .station kind) s = .next (reply kind .unknownRequest .none s)
    ∧ exec (.unknownRequest .broadcast kind) s = .next (endBroadcast s)
    ∧ (reply kind .unknownRequest .none s).lineDriver = true ∧ (endBroadcast s).lineDriver = false
    ∧ (s.link.receiver ≠ .reply → s.lineDriver = false)
    ∧ (let t := reply 0x7F .ok .none s
      exec (.reset .station (.fields ())) s = .next t
        ∧ exec .replySent t = exec (.warmRestart .resetRequest t.inputs) t
        ∧ ∃ u, exec .replySent t = .next u ∧ u.link.receiver = .hunt ∧ u.link.reply = none
          ∧ ∃ n freed rest, u.link.notices.map Notice.body = .restarted .resetRequest n freed :: rest)

/-- R188, R189, R194: a request that is not served. By broadcast, of a kind that broadcast does not admit, it is
discarded: the receiver is in HUNT and nothing else changes. With a body of the wrong length it is refused MALFORMED
with no data, and stores nothing. -/
def Obligations.RequestsNotServed : Prop :=
  ∀ (i : Instr) (s : State), isRequest i = true →
    (admitsBroadcast i = false → i.dest = .broadcast →
      exec i s = .next { s with link := { s.link with receiver := .hunt } })
    ∧ (wrongLength i = true → i.dest = .station → exec i s = .next (reply (kindOf i) .malformed .none s))

/-- R7, R23, R40, R65, R110, R141, R164, R179: the requests that only read are answered, and change nothing but the
link's receiver and reply, whatever they carry. -/
def Obligations.ReadersChangeNothing : Prop :=
  ∀ (i : Instr) (s : State), onlyReads i = true → i.dest = .station →
    ∃ r, exec i s = .next { s with link := { s.link with receiver := .reply, reply := some r } }
      ∧ r.kind = kindOf i + 0x80 ∧ r.summary = summaryByte s

/-- What the reading requests carry: POINT READ the point and its record as a whole (the model's choice, logs 59 and
62) and its line's figures while their record occupies its slot, told by its bound and delivered points (the model's
choice, log 56), and else 0 (R110), TOTALS READ the totaliser, calibration record and latch of up to 9 points (R141),
CAL LOG READ up to 8 entries, newest first (R179), AUTH READ the record of a serial (R65), SALE FETCH the sale at the
head of the queue (R164), HISTORY READ the entry of a card (R40). A point number outside 1 to 18 and a log position
above 31 are refused OUT_OF_RANGE, and SALE FETCH without a serial NOT_FOUND while there is no sale. -/
def Obligations.ReadersAnswer : Prop :=
  (∀ (s : State) (n : Byte),
    (n = 0 ∨ 18 < n.toNat →
      exec (.pointRead .station (.fields n)) s = .next (reply 0x20 .outOfRange .none s)
        ∧ exec (.totalsRead .station (.fields n)) s = .next (reply 0x54 .outOfRange .none s))
    ∧ (31 < n.toNat → exec (.calLogRead .station (.fields n)) s = .next (reply 0x53 .outOfRange .none s))
    ∧ ∀ f : SaleFetchF, f.present = 0 → s.auth.sales = [] →
        exec (.saleFetch .station (.fields f)) s = .next (reply 0x28 .notFound (.queueLength 0) s))
  ∧ ∀ (s : State) (n : Byte) (p : Point), n.toNat = p.val + 1 →
    (∃ x, exec (.pointRead .station (.fields n)) s = .next (reply 0x20 .ok (.point x) s)
      ∧ x.point = p ∧ x.ctl = (s.point p).ctl ∧ x.fitted = s.fitted p ∧ x.latestRate = (s.point p).monitor.latest
      ∧ x.runVolume = (s.point p).ctl.proving.map (fun r => volumeOf (s.point p).cal r.net)
      ∧ (∀ d, (s.point p).ctl.delivery = some d → s.slotOfSerial d.serial = none → x.lineVolume = 0 ∧ x.lineAmount = 0)
      ∧ ∀ d k a, (s.point p).ctl.delivery = some d → s.slotOfSerial d.serial = some k → s.slot k = some a →
          (p ∈ a.bound ∨ p ∈ a.delivered →
            x.lineVolume = (a.lines.get d.line).volume ∧ x.lineAmount = (a.lines.get d.line).amount)
          ∧ (p ∉ a.bound → p ∉ a.delivered → x.lineVolume = 0 ∧ x.lineAmount = 0))
    ∧ (∃ l, exec (.totalsRead .station (.fields n)) s = .next (reply 0x54 .ok (.totals (p.val + 1) l) s)
      ∧ l.length = min 9 (18 - p.val)
      ∧ ∀ j (q : Point), j < l.length → q.val = p.val + j →
          l[j]? = some ⟨(s.point q).totaliser, (s.point q).cal, (s.point q).ctl.faultLatch⟩)
    ∧ (∀ i : Byte, i.toNat ≤ 31 →
        exec (.calLogRead .station (.fields i)) s =
          .next (reply 0x53 .ok (.calLog s.cal.counter s.cal.log.length ((s.cal.log.drop i.toNat).take 8)) s))
    ∧ (∀ (f : AuthReadF) k a, f.marker = 1 → f.part = 1 → s.slotOfSerial f.which.toNat = some k → s.slot k = some a →
        ∃ x, exec (.authRead .station (.fields f)) s = .next (reply 0x14 .ok (.sale x) s)
          ∧ x.slot = k ∧ x.record = a ∧ x.length = s.auth.sales.length)
    ∧ (∀ (f : SaleFetchF) m rest k a, f.present = 0 → s.auth.sales = m :: rest → s.slotOfSerial m = some k →
        s.slot k = some a → a.state = .settled →
        ∃ x, exec (.saleFetch .station (.fields f)) s = .next (reply 0x28 .ok (.sale x) s)
          ∧ x.slot = k ∧ x.record = a ∧ x.length = s.auth.sales.length)
    ∧ (∀ (w : CardWire) c e, readCard w = some c → c.inRange = true → s.historyOf c = some e →
        ∃ x, exec (.historyRead .station (.fields w)) s = .next (reply 0x37 .ok (.history x) s)
          ∧ x.entry = e ∧ x.business = s.clock.business ∧ x.size = s.screening.history.length
          ∧ (s.screening.history[x.position]?).map HistoryEntry.card = some c)

/-- R174: STATUS reports the lanes with a latched alarm flag, the site's flags, the ESTOP state, the ACQUIRER STATE
flag and the two queue lengths; it reports the overflow flag as it stood and then clears it, and changes nothing else.
The clearing in the step of the request, not at the reply's last byte, is DEDUCED (log 34). -/
def Obligations.StatusAnswered : Prop :=
  ∀ s : State, ∃ r x,
    exec (.status .station (.fields ())) s =
      .next { s with link := { s.link with receiver := .reply, reply := some r, overflow := false } }
    ∧ r.kind = 0x81 ∧ r.status = .ok ∧ r.data = .status x ∧ r.summary = summaryByte s
    ∧ (∀ l : Lane, ∃ b, x.lanes[l.val]? = some b
        ∧ (b = true ↔ ∃ p k, laneOf p = l ∧ ((s.sup.pointAlarms[p.val]).get k).latched = true))
    ∧ x.siteAlarms = [s.sup.siteAlarms.estop.latched, s.sup.siteAlarms.calEnabled.latched,
        s.sup.siteAlarms.pumpFailA.latched, s.sup.siteAlarms.pumpFailB.latched, s.sup.siteAlarms.pumpFailC.latched]
    ∧ x.estopLatch = s.sup.estopLatch ∧ x.estopInput = s.sup.estopInput ∧ x.noticeBlock = s.sup.noticeBlock
    ∧ x.acquirerUp = s.link.acquirerUp ∧ x.notices = s.link.notices.length ∧ x.sales = s.auth.sales.length
    ∧ x.overflow = s.link.overflow

/-- R191: TAKE removes the oldest notice and keeps it as the copy; TAKE on an empty queue answers a count of 0 and no
notice; REPEAT answers the copy and changes no queue; another option, or a body of the wrong length, is refused
MALFORMED; a broadcast is dropped. -/
def Obligations.NoticeTaken : Prop :=
  ∀ (s : State) (o : Byte),
    (∀ n rest, s.link.notices = n :: rest →
      exec (.nextNotice .station (.fields 0)) s =
        .next (reply 0x02 .ok (.notice rest.length (some n))
          { s with link := { s.link with notices := rest, lastTaken := some n } }))
    ∧ (s.link.notices = [] → exec (.nextNotice .station (.fields 0)) s = .next (reply 0x02 .ok (.notice 0 none) s))
    ∧ exec (.nextNotice .station (.fields 1)) s =
        .next (reply 0x02 .ok (.notice s.link.notices.length s.link.lastTaken) s)
    ∧ (o ≠ 0 → o ≠ 1 → exec (.nextNotice .station (.fields o)) s = .next (reply 0x02 .malformed .none s))
    ∧ exec (.nextNotice .station .wrongLength) s = .next (reply 0x02 .malformed .none s)
    ∧ ∀ b, exec (.nextNotice .broadcast b) s = .next (endBroadcast s)

/-! ### Card screening unit -/

/-- R7, R8: PROFILE READ of an index 0 to 63 answers the entry as stored and the valid count, also at or above the
count; another index is refused OUT_OF_RANGE; no state changes. The reply carries the index too (the model's choice,
log 59). PROFILE COUNT of 0 to 64 is stored and answered with the count it replaced; above 64 it is refused
OUT_OF_RANGE. Every entry and every record stands. -/
def Obligations.ProfileReadAndCount : Prop :=
  ∀ (b : Byte) (s : State),
    (∀ i : Fin 64, b.toNat = i.val →
      exec (.profileRead .station (.fields b)) s =
        .next (reply 0x31 .ok (.profile i.val s.screening.profiles[i.val] s.screening.valid) s))
    ∧ (64 ≤ b.toNat → exec (.profileRead .station (.fields b)) s = .next (reply 0x31 .outOfRange .none s))
    ∧ (b.toNat ≤ 64 →
        exec (.profileCount .station (.fields b)) s =
          .next (reply 0x32 .ok (.profileCount b.toNat s.screening.valid)
            { s with screening := { s.screening with valid := b.toNat } }))
    ∧ (64 < b.toNat → exec (.profileCount .station (.fields b)) s = .next (reply 0x32 .outOfRange .none s))

/-- R5, R6: PROFILE WRITE. An undefined code is MALFORMED; then an index of 64 or more is refused OUT_OF_RANGE naming
field 1; then the first field out of range, in the order of the layout, and after them a range high below the range low
or an offline-only mode with floor limit 0, is refused naming that field (of the last two, where both stand, range high:
the model's choice, log 64). A write that passes replaces the entry at its index as a whole, the online timeout clamped
to 5 to 60 s, and is answered with the entry as stored (without the valid count: the model's choice, log 47); the valid
count and every record stand. -/
def Obligations.ProfileWriteStores : Prop :=
  ∀ (f : ProfileWriteF) (s : State),
    let sound := 1 ≤ f.cls.toNat ∧ f.cls.toNat ≤ 3 ∧ f.active.toNat ≤ 1 ∧ f.allLanes.toNat ≤ 1
      ∧ f.products.toNat ≤ 7 ∧ f.prompts.toNat ≤ 15 ∧ 1 ≤ f.onlineMode.toNat ∧ f.onlineMode.toNat ≤ 3
    let wrong : List (Bool × Nat) :=
      [(9999999999 < f.rangeLow.toNat, 2), (9999999999 < f.rangeHigh.toNat, 3), (3 < f.tier.toNat, 6),
        (f.products.toNat = 0, 8), (6 < f.predicate.toNat, 10), (f.window.toNat = 0 ∨ 9999 < f.window.toNat, 11),
        (999999 < f.floorLimit.toNat, 14), (f.preAuth.toNat = 0 ∨ 999999 < f.preAuth.toNat, 15),
        (999999 < f.defCap.toNat, 16), (999999 < f.rfrCap.toNat, 17), (15 < f.maxAuths.toNat, 18),
        (9999999 < f.dailyCap.toNat, 19), (f.rangeHigh.toNat < f.rangeLow.toNat, 3),
        (f.onlineMode.toNat = 3 ∧ f.floorLimit.toNat = 0, 14)]
    (¬ sound → exec (.profileWrite .station (.fields f)) s = .next (reply 0x30 .malformed .none s))
    ∧ (sound → 64 ≤ f.index.toNat →
        exec (.profileWrite .station (.fields f)) s = .next (reply 0x30 .outOfRange (.profileRefused f.index 1) s))
    ∧ (∀ b n, sound → f.index.toNat < 64 → wrong.find? (fun x => x.1) = some (b, n) →
        exec (.profileWrite .station (.fields f)) s = .next (reply 0x30 .outOfRange (.profileRefused f.index n) s))
    ∧ (∀ i : Fin 64, sound → f.index.toNat = i.val → (∀ x ∈ wrong, x.1 = false) →
        ∃ e, exec (.profileWrite .station (.fields f)) s =
            .next (reply 0x30 (if f.onlineTimeout.toNat < 5 ∨ 60 < f.onlineTimeout.toNat then .okClamped else .ok)
              (.profileStored i.val e)
              { s with screening := { s.screening with profiles := s.screening.profiles.set i.val e } })
          ∧ e.rangeLow = f.rangeLow.toNat ∧ e.rangeHigh = f.rangeHigh.toNat ∧ e.active = (f.active == 1)
          ∧ e.tier = f.tier.toNat ∧ e.allLanes = (f.allLanes == 1)
          ∧ e.products = ⟨f.products.getLsbD 0, f.products.getLsbD 1, f.products.getLsbD 2⟩
          ∧ e.prompts = ⟨f.prompts.getLsbD 0, f.prompts.getLsbD 1, f.prompts.getLsbD 2, f.prompts.getLsbD 3⟩
          ∧ e.predicate = f.predicate.toNat ∧ e.window = f.window.toNat ∧ e.floorLimit = f.floorLimit.toNat
          ∧ e.preAuth = f.preAuth.toNat ∧ e.defCap = f.defCap.toNat ∧ e.rfrCap = f.rfrCap.toNat
          ∧ e.maxAuths = f.maxAuths.toNat ∧ e.dailyCap = f.dailyCap.toNat
          ∧ e.onlineTimeout = max 5 (min 60 f.onlineTimeout.toNat)
          ∧ (f.cls.toNat = 1 → e.cls = .fleet) ∧ (f.cls.toNat = 2 → e.cls = .bank)
          ∧ (f.cls.toNat = 3 → e.cls = .siteAccount)
          ∧ (f.onlineMode.toNat = 1 → e.onlineMode = .alwaysOnline)
          ∧ (f.onlineMode.toNat = 2 → e.onlineMode = .onlinePreferred)
          ∧ (f.onlineMode.toNat = 3 → e.onlineMode = .offlineOnly))

/-- R23: HOTLIST QUERY of a number that has passed R17 answers the list count and whether the number is a member of
the list, and changes no state. The binary search of at most 11 comparisons decides membership of every ordered list
(R18). -/
def Obligations.HotListQueried : Prop :=
  ∀ (w : CardWire) (c : CardNumber) (s : State), HotListOrdered s → readCard w = some c → c.inRange = true →
    exec (.hotlistQuery .station (.fields w)) s =
      .next (reply 0x36 .ok (.hotMember s.screening.hotList.length (decide (c ∈ s.screening.hotList))) s)

/-- R19 to R22: the changes of the hot list. An ADD of a new number inserts it and keeps the order; of a member it
changes no list; of a new number to a full list it is refused LIST_FULL. An ADD answered OK frees the ARMED record of
its number, with its notice and serial (R20). A REMOVE takes a member out and is else refused NOT_FOUND. A CLEAR
empties the list. R17, R40: a number whose digits R194 refuses is MALFORMED, and one of a digit count outside 12 to 19
OUT_OF_RANGE, in ADD, REMOVE, QUERY and HISTORY READ, and nothing changes. -/
def Obligations.HotListChanges : Prop :=
  (∀ (w : CardWire) (s : State),
    let refused (x : Status) : Prop :=
      exec (.hotlistAdd .station (.fields w)) s = .next (reply 0x33 x .none s)
        ∧ exec (.hotlistRemove .station (.fields w)) s = .next (reply 0x34 x .none s)
        ∧ exec (.hotlistQuery .station (.fields w)) s = .next (reply 0x36 x .none s)
        ∧ exec (.historyRead .station (.fields w)) s = .next (reply 0x37 x .none s)
    (¬ cardSound w → refused .malformed)
    ∧ (cardSound w → w.count.toNat < 12 ∨ 19 < w.count.toNat → refused .outOfRange))
  ∧ ∀ (w : CardWire) (c : CardNumber) (s : State), HotListOrdered s → readCard w = some c → c.inRange = true →
    let l := s.screening.hotList
    let withList (m : List CardNumber) : State := { s with screening := { s.screening with hotList := m } }
    (c ∉ l → l.length < 1024 → s.armedSlot c = none →
      ∃ m, exec (.hotlistAdd .station (.fields w)) s =
          .next (reply 0x33 .ok (.hotAdded (l.length + 1) true 0) (withList m))
        ∧ HotListOrdered (withList m) ∧ m.length = l.length + 1 ∧ ∀ d, d ∈ m ↔ d = c ∨ d ∈ l)
    ∧ (∀ k a, c ∉ l → l.length < 1024 → s.armedSlot c = some k → s.slot k = some a →
        ∃ m, exec (.hotlistAdd .station (.fields w)) s =
            .next (reply 0x33 .ok (.hotAdded (l.length + 1) true a.serial)
              (pushNotice (.authResult a.serial a.lane .cancelledHotCard 0)
                { withList m with auth := { s.auth with slots := s.auth.slots.set k.val none } }))
          ∧ HotListOrdered (withList m) ∧ m.length = l.length + 1 ∧ ∀ d, d ∈ m ↔ d = c ∨ d ∈ l)
    ∧ (c ∈ l → s.armedSlot c = none →
        exec (.hotlistAdd .station (.fields w)) s = .next (reply 0x33 .ok (.hotAdded l.length false 0) s))
    ∧ (c ∉ l → l.length = 1024 →
        exec (.hotlistAdd .station (.fields w)) s = .next (reply 0x33 .listFull (.hotCount 1024) s))
    ∧ (∀ k a, c ∈ l → s.armedSlot c = some k → s.slot k = some a →
        exec (.hotlistAdd .station (.fields w)) s =
          .next (reply 0x33 .ok (.hotAdded l.length false a.serial)
            (pushNotice (.authResult a.serial a.lane .cancelledHotCard 0)
              { s with auth := { s.auth with slots := s.auth.slots.set k.val none } })))
    ∧ (c ∈ l →
        exec (.hotlistRemove .station (.fields w)) s =
          .next (reply 0x34 .ok (.hotCount (l.length - 1)) (withList (l.erase c))))
    ∧ (c ∉ l → exec (.hotlistRemove .station (.fields w)) s = .next (reply 0x34 .notFound (.hotCount l.length) s))
    ∧ exec (.hotlistClear .station (.fields ())) s = .next (reply 0x35 .ok (.hotCleared l.length 0) (withList []))

/-- R38, R39, R192: DAY CLOSE and CLOCK SET. A calendar date is one of 2000 to 2099 (DEDUCED, log 21). DAY CLOSE with
a body of the wrong length, then with a date that is no calendar date or not later than the business date, then with a
live record is refused. Accepted, it loads the business date and sets the three daily counts of every history entry to
0, keeping every entry, its last odometer, last-use time and place. CLOCK SET with a calendar date and a second up to
86,399 loads the RTC, its second at its start (the model's choice, log 12), and is else refused OUT_OF_RANGE; the
business date and every timer stand. The reply's frame carries the RTC before and after, 8 bytes each (R194). By
broadcast both act without a reply. -/
def Obligations.ClockSetAndDayClose : Prop :=
  (∀ (f : DateF) (s : State),
    let date : Date := ⟨f.year.toNat, f.month.toNat, f.day.toNat⟩
    let good := 2000 ≤ date.year ∧ date.year ≤ 2099 ∧ 1 ≤ date.day ∧ date.day ≤ daysInMonth date.year date.month
      ∧ s.clock.business.before date = true
    let closed : State :=
      { s with
        clock := { s.clock with business := date }
        screening :=
          { s.screening with
            history := s.screening.history.map fun e => { e with auths := 0, volume := 0, failures := 0 } } }
    exec (.dayClose .station .wrongLength) s = .next (reply 0x38 .malformed .none s)
    ∧ (¬ good → exec (.dayClose .station (.fields f)) s = .next (reply 0x38 .outOfRange .none s))
    ∧ (good → s.liveCount ≠ 0 →
        exec (.dayClose .station (.fields f)) s = .next (reply 0x38 .wrongState (.liveCount s.liveCount) s))
    ∧ (good → s.liveCount = 0 →
        exec (.dayClose .station (.fields f)) s =
            .next (reply 0x38 .ok (.dayClosed date s.screening.history.length) closed)
          ∧ exec (.dayClose .broadcast (.fields f)) s = .next (endBroadcast closed))
    ∧ (¬ good ∨ s.liveCount ≠ 0 → exec (.dayClose .broadcast (.fields f)) s = .next (endBroadcast s)))
  ∧ (∀ (f : TimeF) (s : State),
    let date : Date := ⟨f.date.year.toNat, f.date.month.toNat, f.date.day.toNat⟩
    let set := { s with clock := { s.clock with rtc := ⟨date, f.second.toNat⟩, phase := 0 } }
    if 2000 ≤ date.year ∧ date.year ≤ 2099 ∧ 1 ≤ date.day ∧ date.day ≤ daysInMonth date.year date.month
        ∧ f.second.toNat ≤ 86399 then
      exec (.clockSet .station (.fields f)) s =
          .next (reply 0x39 .ok (.clock s.clock.rtc ⟨date, f.second.toNat⟩) set)
        ∧ ((reply 0x39 .ok (.clock s.clock.rtc ⟨date, f.second.toNat⟩) set).link.reply.bind Reply.frame =
          some
            (frameBytes (s.link.station.setWidth 8)
              ([0xB9, 0x00, summaryByte set] ++ toBE 2 s.clock.rtc.date.year
                ++ [BitVec.ofNat 8 s.clock.rtc.date.month, BitVec.ofNat 8 s.clock.rtc.date.day]
                ++ toBE 4 s.clock.rtc.second ++ toBE 2 date.year ++ [f.date.month, f.date.day]
                ++ toBE 4 f.second.toNat)))
        ∧ exec (.clockSet .broadcast (.fields f)) s = .next (endBroadcast set)
    else
      exec (.clockSet .station (.fields f)) s = .next (reply 0x39 .outOfRange .none s)
        ∧ exec (.clockSet .broadcast (.fields f)) s = .next (endBroadcast s))

/-- R29: what each predicate code passes, over the flags of the difference D (R28); a card with no last odometer
passes under every code. -/
def Obligations.PredicatesDecide : Prop :=
  ∀ (window entered last : Nat),
    let d : Int := entered - last
    (∀ code, readingPasses code window entered none = true)
    ∧ readingPasses 0 window entered (some last) = true
    ∧ (readingPasses 1 window entered (some last) = true ↔ ¬ d < 0)
    ∧ (readingPasses 2 window entered (some last) = true ↔ ¬ d < 0 ∧ d ≠ 0)
    ∧ (readingPasses 3 window entered (some last) = true ↔ ¬ window < d.natAbs)
    ∧ (readingPasses 4 window entered (some last) = true ↔ ¬ d < 0 ∧ ¬ window < d.natAbs)
    ∧ (readingPasses 5 window entered (some last) = true ↔ ¬ d < 0 ∧ d ≠ 0 ∧ ¬ window < d.natAbs)
    ∧ (readingPasses 6 window entered (some last) = true ↔ d ≠ 0)

/-! ### Authorization manager -/

/-- R31, R36, R43, R48, R49: a card read that passes screening steps 1 to 11, and that waits for the acquirer or is
ARMED at once, is ACCEPTED: the lowest FREE slot holds a new record with a fresh serial and every line UNOPENED; the
card's history entry stands at the front with one authorization more, and with the odometer entered as its last where
the profile asks for it. Waiting, the record is in AWAIT_ONLINE with its online timer; ARMED at once, as a stand-in or
by an offline-only profile, it holds min(requested amount, floor limit), its arming timer runs, and the points of the
lane are presented for binding. Its reply then names ARMED, though the record may be DELIVERING when the reply is built
(DEDUCED, log 16). That the reply carries the whole record as data, its timer absent where ARMED, is the model's choice
(log 62), and so are the allowance, the reservation and the limit of 0 in an UNOPENED line (log 49). A binding that
reserves has the DSL line evaluated before its point joins its pump (DEDUCED, log 67). -/
def Obligations.CardAccepted : Prop :=
  ∀ (f : CardPresentedF) (r : CardRead) (x : Screened) (s : State),
    readsAs f r → laneReady r x.lane s → screensAs r x s →
    let path := onlinePath x.profile.onlineMode x.profile.floorLimit s.link.acquirerUp
    path ≠ .offline →
    ∃ k a t, exec (.cardPresented .station (.fields f)) s =
        .next (reply 0x10 .ok (.accepted ⟨k, a, if path = .await then .awaitOnline else .armed⟩) t)
      ∧ s.slot k = none ∧ (∀ j : Slot, j.val < k.val → s.slot j ≠ none)
      ∧ a.serial = s.newSerial ∧ a.lane = x.lane ∧ a.card = r.card ∧ a.expiry = r.expiry
      ∧ a.profile = x.index.val ∧ a.snapshot.allowed = x.allowed ∧ a.snapshot.floorLimit = x.profile.floorLimit
      ∧ a.snapshot.capRemaining =
          (if x.profile.dailyCap = 0 then none else some (x.profile.dailyCap - x.entry.volume))
      ∧ a.requested = (match r.amount with
          | some m => min m x.profile.preAuth
          | none => x.profile.preAuth)
      ∧ a.prompts = r.prompts ∧ a.bound = [] ∧ a.delivered = [] ∧ (∀ q, a.lines.get q = blankLine) ∧ a.created = s.now
      ∧ (∃ e, entersHistory r.card e s t ∧ e.auths = min (x.entry.auths + 1) 15 ∧ e.volume = x.entry.volume
          ∧ e.failures = x.entry.failures
          ∧ e.lastOdometer =
            match enteredOdometer r.prompts with
            | some v => if (requiredSet x.profile x.allowed).odometer then some v else x.entry.lastOdometer
            | none => x.entry.lastOdometer)
      ∧ (let put (b : AuthRecord) : State :=
          { s with
            auth := { s.auth with slots := s.auth.slots.set k.val (some b), serial := a.serial }
            screening := { s.screening with history := t.screening.history } }
        (path = .await →
          t = put a ∧ a.state = .awaitOnline ∧ a.hold = none ∧ a.timer = some ⟨.online, x.profile.onlineTimeout * 10000⟩
            ∧ a.flags = ⟨false, false, false, false, false, false, false⟩)
        ∧ ∀ standin, path = .armed standin →
          lanePresented x.lane k (put { a with timer := some ⟨.arming, s.site.armingTime * 10000⟩ }) t
            ∧ a.state = .armed ∧ a.hold = some (min a.requested x.profile.floorLimit) ∧ a.timer = none
            ∧ a.flags = ⟨standin, false, false, false, false, false, false⟩)

/-- R46, R47 steps 4 to 6: a sound card read is refused SITE_STOPPED while the ESTOP latch is set; OUT_OF_RANGE for a
lane number outside 1 to 6; WRONG_STATE on a disabled lane; LANE_BUSY with the record's serial and state on a lane
with a live record; and TABLE_FULL with the number of sales where no slot is FREE. It is DECLINED BAD_CARD for a
number or expiry month that fails the format check, EXPIRED past its month, and HOT_CARD for a number of the hot list.
R25, R46: before that, its structure, its amount and its prompt list are checked, in this order; a digit place of UNIT
or DRIVER after its count must be 0xF (DEDUCED, log 18), the count of a number prompt (DEDUCED, log 17) and an amount
not carried (log 19) are not checked, and of several prompts out of range the first is named (log 48; both the model's
choice). None of them changes anything but the reply. -/
def Obligations.CardTurnedAway : Prop :=
  (∀ (f : CardPresentedF) (s : State),
    let answered (x : Status) (d : ReplyData) : Prop :=
      exec (.cardPresented .station (.fields f)) s = .next (reply 0x10 x d s)
    let sound := cardSound f.card ∧ digitsSound 4 f.expiry.toNat 4 ∧ f.restriction.toNat ≤ 3 ∧ f.amountPresent.toNat ≤ 1
    let amountPasses := f.amountPresent = 1 → 1 ≤ f.amount.toNat ∧ f.amount.toNat ≤ 999999
    let ofDigits (w : PromptWire) : Prop := w.kind = 2 ∨ w.kind = 3
    let listSound := f.prompts.length ≤ 4 ∧ (f.prompts.map PromptWire.kind).Nodup
      ∧ ∀ w ∈ f.prompts, 1 ≤ w.kind.toNat ∧ w.kind.toNat ≤ 4
        ∧ (ofDigits w → digitsSound 8 w.value.toNat w.count.toNat)
    let outside (w : PromptWire) : Prop :=
      (w.kind = 1 ∧ 9999999 < w.value.toNat) ∨ (w.kind = 4 ∧ 99999 < w.value.toNat)
        ∨ (ofDigits w ∧ (w.count = 0 ∨ 8 < w.count.toNat))
    (¬ sound → answered .malformed .none)
    ∧ (sound → ¬ amountPasses → answered .outOfRange .none)
    ∧ (sound → amountPasses → ¬ listSound → answered .malformed .none)
    ∧ ∀ front w back k, sound → amountPasses → listSound → f.prompts = front ++ w :: back →
        (∀ x ∈ front, ¬ outside x) → outside w → readPromptKind w.kind = some k →
        answered .outOfRange (.promptKind k))
  ∧ ∀ (f : CardPresentedF) (r : CardRead) (l : Lane) (s : State), readsAs f r →
    let answered (x : Status) (d : ReplyData) : Prop :=
      exec (.cardPresented .station (.fields f)) s = .next (reply 0x10 x d s)
    let enabled := s.sup.estopLatch = false ∧ readLane r.lane = some l ∧ (s.lane l).enabled = true
    (s.sup.estopLatch = true → answered .siteStopped .none)
    ∧ (s.sup.estopLatch = false → f.lane = 0 ∨ 6 < f.lane.toNat → answered .outOfRange .none)
    ∧ (s.sup.estopLatch = false → readLane r.lane = some l → (s.lane l).enabled = false → answered .wrongState .none)
    ∧ (∀ k a, enabled → s.liveSlot l = some k → s.slot k = some a →
        answered .laneBusy (.laneBusy a.serial a.state))
    ∧ (enabled → s.liveSlot l = none → (∀ k, s.slot k ≠ none) →
        answered .tableFull (.settledCount (allSlots.countP fun k => (s.slot k).any fun a => a.state == .settled)))
    ∧ (laneReady r l s →
        (formatOk r = false → answered .ok (.declined .badCard none))
        ∧ (formatOk r = true → 2000 + r.expiry.year < s.clock.business.year
              ∨ (2000 + r.expiry.year = s.clock.business.year ∧ r.expiry.month < s.clock.business.month) →
            answered .ok (.declined .expired none))
        ∧ (HotListOrdered s → formatOk r = true → r.expiry.past s.clock.business = false →
            r.card ∈ s.screening.hotList → answered .ok (.declined .hotCard none)))

/-- R9 to R13, R26, R30, R33 to R35, R47 steps 7 to 11, R49: a card read that passes the steps before is DECLINED
NO_TABLE with no valid entry, UNKNOWN_RANGE where no valid entry holds its first ten digits, and by the entry it
selects PROFILE_INACTIVE, LANE_NOT_PERMITTED, or PRODUCT where no product is left; and CARD_IN_USE with the lane of the
card's live record. None of these changes anything but the reply. The history step comes next and stays whatever
follows: VELOCITY at the daily count or volume, ODOMETER at three failures, PROMPT_NEEDED with the kinds that are
missing and the retries left, a reading that fails is counted and asked for again or with the third DECLINED ODOMETER,
and a profile that cannot go offline is DECLINED OFFLINE. -/
def Obligations.CardScreened : Prop :=
  ∀ (f : CardPresentedF) (r : CardRead) (l : Lane) (s : State), readsAs f r → laneReady r l s → formatPasses r s →
    let answered (d : ReplyData) (t : State) : Prop :=
      exec (.cardPresented .station (.fields f)) s = .next (reply 0x10 .ok d t)
    let entered (d : ReplyData) (e : HistoryEntry) : Prop :=
      ∃ t, answered d t ∧ entersHistory r.card e s t
        ∧ t = { s with screening := { s.screening with history := t.screening.history } }
    (s.screening.valid = 0 → answered (.declined .noTable none) s)
    ∧ (s.screening.valid ≠ 0 → (∀ i, ¬ picks i r.card s) → answered (.declined .unknownRange none) s)
    ∧ ∀ i, picks i r.card s →
      let p := s.screening.profiles[i.val]
      let permitted := p.active = true ∧ ((s.lane l).tier ≤ p.tier ∨ p.allLanes = true)
      let allowed := allowedOn r p l s
      let e := entryOf r.card s
      (p.active = false → answered (.declined .profileInactive none) s)
      ∧ (p.active = true → p.tier < (s.lane l).tier → p.allLanes = false →
          answered (.declined .laneNotPermitted none) s)
      ∧ (permitted → allowed = ⟨false, false, false⟩ → answered (.declined .product none) s)
      ∧ (∀ k a, permitted → allowed ≠ ⟨false, false, false⟩ → s.slotOfCard r.card = some k → s.slot k = some a →
          answered (.declined .cardInUse (some a.lane)) s)
      ∧ (permitted → allowed ≠ ⟨false, false, false⟩ → s.slotOfCard r.card = none →
          let spent := (p.maxAuths ≠ 0 ∧ p.maxAuths ≤ e.auths) ∨ (p.dailyCap ≠ 0 ∧ p.dailyCap ≤ e.volume)
          let lacks (k : PromptKind) : Prop :=
            p.prompts.has k = true ∧ (k = .reeferHours → allowed.rfr = true) ∧ ∀ q ∈ r.prompts, q.kind ≠ k
          let asked := p.prompts.odometer = true
          let passes := readingPasses p.predicate p.window ((enteredOdometer r.prompts).getD 0) e.lastOdometer = true
          let failed : HistoryEntry := { e with failures := e.failures + 1 }
          (spent → entered (.declined .velocity none) e)
          ∧ (¬ spent → e.failures = 3 → entered (.declined .odometer none) e)
          ∧ (¬ spent → e.failures ≠ 3 → (∃ k, lacks k) →
              ∃ m, entered (.promptNeeded m (3 - e.failures)) e ∧ ∀ k, m.has k = true ↔ lacks k)
          ∧ (¬ spent → e.failures ≠ 3 → (∀ k, ¬ lacks k) →
              (asked → ¬ passes → e.failures = 2 → entered (.declined .odometer none) failed)
              ∧ (asked → ¬ passes → e.failures ≠ 2 →
                  entered (.promptNeeded ⟨true, false, false, false⟩ (3 - (e.failures + 1))) failed)
              ∧ (¬ asked ∨ passes → s.link.acquirerUp = false →
                  p.onlineMode = .alwaysOnline ∨ (p.onlineMode = .onlinePreferred ∧ p.floorLimit = 0) →
                  entered (.declined .offline none) e)))

/-- R43: the serial a new record takes is one that no occupied slot holds, from 1 to 65,535; it is the counter's next
value where no slot holds that. It is the first such value: every serial that the counter passes on its way, from the
one after it, is held by an occupied slot. -/
def Obligations.FreshSerial : Prop :=
  ∀ s : State, 1 ≤ s.newSerial ∧ s.newSerial ≤ 65535
    ∧ (∀ k a, s.slot k = some a → a.serial ≠ s.newSerial)
    ∧ ((∀ k a, s.slot k = some a → a.serial ≠ (if s.auth.serial < 65535 then s.auth.serial + 1 else 1)) →
        s.newSerial = if s.auth.serial < 65535 then s.auth.serial + 1 else 1)
    ∧ ∃ n, s.newSerial = Nat.repeat serialAfter (n + 1) s.auth.serial
      ∧ ∀ i < n, ∃ k a, s.slot k = some a ∧ a.serial = Nat.repeat serialAfter (i + 1) s.auth.serial

/-- R52, R53, R163: a sound ONLINE RESULT. For a record in AWAIT_ONLINE, APPROVE of an amount above 0 loads the hold,
the reference, the DSL limit and the narrowed products, the record is ARMED with its arming timer, and the points in
CALLING of the lane whose live record it is (R44) are presented for binding; an empty intersection frees it with
DECLINED PRODUCT; DECLINE or an amount of 0 frees it. A late result is answered LATE: it confirms a live stand-in, or
by DECLINE sets LATE_DECLINE and frees an ARMED one, sets CLOSING in a DELIVERING one with a soft stop at its points,
and settles an IDLE_OPEN one; of a sale that stood in, DECLINE sets LATE_DECLINE alone; a second result changes
nothing. A live record that is no stand-in answers WRONG_STATE, a serial that no slot holds UNKNOWN_AUTH. The bytes of
the limit and of the narrowing set are free where their presence byte is 0: that they are not checked is the model's
choice (log 19). The reply to an approval names ARMED, as R52 does, though the record may be DELIVERING when the reply
is built (DEDUCED, log 16). A binding that reserves has the DSL line evaluated before its point joins its pump (DEDUCED,
log 67). The requests that R52 refuses MALFORMED or OUT_OF_RANGE are not spoken of. -/
def Obligations.OnlineResultActs : Prop :=
  ∀ (f : OnlineResultF) (s : State) (k : Slot) (a : AuthRecord),
    f.reference.length ≤ 12 → (∀ c ∈ f.reference, 0x20 ≤ c.toNat ∧ c.toNat ≤ 0x7E) →
    f.amount.toNat ≤ 999999 → f.limitPresent.toNat ≤ 1 →
    (f.limitPresent = 1 → 1 ≤ f.limit.toNat ∧ f.limit.toNat ≤ 9999999) → f.narrowPresent.toNat ≤ 1 →
    (f.narrowPresent = 1 → f.narrow.toNat ≤ 7) → f.result = 1 ∨ f.result = 2 →
    let allowed : ProductSet :=
      if f.narrowPresent = 1 then
        a.snapshot.allowed.inter ⟨f.narrow.getLsbD 0, f.narrow.getLsbD 1, f.narrow.getLsbD 2⟩
      else a.snapshot.allowed
    let put (b : Option AuthRecord) : State := { s with auth := { s.auth with slots := s.auth.slots.set k.val b } }
    let hold := min f.amount.toNat a.requested
    let marked : AuthRecord := { a with flags := { a.flags with lateDecline := true } }
    let answered (x : Status) (d : ReplyData) (t : State) : Prop :=
      exec (.onlineResult .station (.fields f)) s = .next (reply 0x11 x d t)
    (s.slotOfSerial f.serial.toNat = none → answered .unknownAuth .none s)
    ∧ (s.slotOfSerial f.serial.toNat = some k → s.slot k = some a →
        (a.state = .awaitOnline →
          (s.liveSlot a.lane = some k → f.result = 1 → 0 < f.amount.toNat → allowed.isEmpty = false →
            ∃ t, answered .ok (.approved .armed hold allowed) t
              ∧ lanePresented a.lane k
                (put (some
                  { a with
                    state := .armed, hold := some hold, reference := some f.reference
                    onlineLimit := if f.limitPresent = 1 then some f.limit.toNat else none
                    snapshot := { a.snapshot with allowed := allowed }
                    timer := some ⟨.arming, s.site.armingTime * 10000⟩ })) t)
          ∧ (f.result = 1 → 0 < f.amount.toNat → allowed.isEmpty = true → answered .ok .declinedProduct (put none))
          ∧ (f.result = 2 ∨ f.amount.toNat = 0 → answered .ok (.recordState none) (put none)))
        ∧ (a.state ≠ .awaitOnline → a.state ≠ .settled → a.flags.lateDecline = true → answered .late .none s)
        ∧ (a.state ≠ .awaitOnline → a.state ≠ .settled → a.flags.lateDecline = false →
            (a.flags.standin = false → answered .wrongState .none s)
            ∧ (a.flags.standin = true → f.result = 1 →
                answered .late .none
                  (put (some
                    { a with
                      reference := some f.reference
                      flags := { a.flags with standin := false, confirmed := true } })))
            ∧ (a.flags.standin = true → f.result = 2 →
                (a.state = .armed →
                  answered .late .none (pushNotice (.authResult a.serial a.lane .cancelledLateDecline 0) (put none)))
                ∧ (a.state = .idleOpen →
                    ∃ t, answered .late .none t
                      ∧ settles k marked (a.endReason.getD .lateDecline) (put (some marked)) t)
                ∧ (a.state = .delivering →
                    ∃ t, answered .late .none t
                      ∧ t = { s with auth := t.auth, points := t.points, pumps := t.pumps, link := t.link }
                      ∧ linkKept s t ∧ slotsKept k s t ∧ softStops a.bound .lateDecline s t
                      ∧ t.slot k =
                        some (if a.flags.closing then marked
                          else
                            { marked with
                              flags := { marked.flags with closing := true }, endReason := some .lateDecline }))))
        ∧ (a.state = .settled →
            (a.flags.standin = true → f.result = 2 → answered .late .none (put (some marked)))
            ∧ (a.flags.standin = false ∨ f.result = 1 → answered .late .none s)))

/-- R51: ACQUIRER STATE UP loads the flag and changes no record. DOWN loads it, and every record in AWAIT_ONLINE takes
the expiry path: it stands in with min(requested amount, floor limit), ARMED or bound at once, or it is freed; every
other record, and all of the part but records, points, pumps and the notice queue, is as it was. -/
def Obligations.AcquirerStateActs : Prop :=
  ∀ s : State,
    exec (.acquirerState .station (.fields 1)) s =
        .next (reply 0x12 .ok (.acquirer true 0) { s with link := { s.link with acquirerUp := true } })
    ∧ exec (.acquirerState .broadcast (.fields 1)) s =
        .next (endBroadcast { s with link := { s.link with acquirerUp := true } })
    ∧ ∃ t, exec (.acquirerState .station (.fields 2)) s =
          .next (reply 0x12 .ok
            (.acquirer false (allSlots.countP fun k => (s.slot k).any fun a => a.state == .awaitOnline)) t)
        ∧ exec (.acquirerState .broadcast (.fields 2)) s = .next (endBroadcast t)
        ∧ t = { s with auth := { s.auth with slots := t.auth.slots }, points := t.points, pumps := t.pumps, link := t.link }
        ∧ t.link = { s.link with acquirerUp := false, notices := t.link.notices, overflow := t.link.overflow }
        ∧ (OneLiveRecord s → ∀ k a, s.slot k = some a →
            (a.state ≠ .awaitOnline → t.slot k = some a)
            ∧ (a.state = .awaitOnline →
                if a.snapshot.onlineMode = .onlinePreferred ∧ 0 < a.snapshot.floorLimit then
                  ∃ b, t.slot k = some b ∧ (b.state = .armed ∨ b.state = .delivering) ∧ b.flags.standin = true
                    ∧ b.hold = some (min a.requested a.snapshot.floorLimit) ∧ b.serial = a.serial
                else t.slot k = none))

/-- R62, R165: CANCEL AUTH frees a record in AWAIT_ONLINE or ARMED, settles one in IDLE_OPEN, changes nothing of a
CLOSING or SETTLED one, and of another DELIVERING record sets CLOSING and gives each bound point a soft stop by its
state (R96). SALE CLEAR takes the serial of a SETTLED record out of the sale queue and frees its slot; a live record is
refused WRONG_STATE with its state, and a serial that no slot holds UNKNOWN_AUTH, both without the queue length (the
model's choice, log 66). -/
def Obligations.CancelAndClear : Prop :=
  (∀ (n : W16) (s : State), n = 0 ∨ (∀ k a, s.slot k = some a → a.serial ≠ n.toNat) →
    exec (.cancelAuth .station (.fields n)) s = .next (reply 0x13 .unknownAuth .none s)
      ∧ exec (.saleClear .station (.fields n)) s = .next (reply 0x29 .unknownAuth .none s))
  ∧ ∀ (n : W16) (k : Slot) (a : AuthRecord) (s : State), s.slotOfSerial n.toNat = some k → s.slot k = some a →
    (a.state = .awaitOnline ∨ a.state = .armed →
      exec (.cancelAuth .station (.fields n)) s =
        .next (reply 0x13 .ok (.recordState none) { s with auth := { s.auth with slots := s.auth.slots.set k.val none } }))
    ∧ (a.state = .idleOpen →
        ∃ t, exec (.cancelAuth .station (.fields n)) s = .next (reply 0x13 .ok (.recordState (some .settled)) t)
          ∧ settles k a (a.endReason.getD .cancel) s t)
    ∧ (a.state = .settled → exec (.cancelAuth .station (.fields n)) s = .next (reply 0x13 .wrongState .none s))
    ∧ (a.state = .delivering → a.flags.closing = true →
        exec (.cancelAuth .station (.fields n)) s = .next (reply 0x13 .ok (.recordState (some .delivering)) s))
    ∧ (a.state = .delivering → a.flags.closing = false →
        ∃ t, exec (.cancelAuth .station (.fields n)) s = .next (reply 0x13 .ok (.recordBound .delivering a.bound) t)
          ∧ t = { s with auth := t.auth, points := t.points, pumps := t.pumps, link := t.link } ∧ linkKept s t
          ∧ t.slot k = some { a with flags := { a.flags with closing := true }, endReason := some .cancel }
          ∧ slotsKept k s t ∧ softStops a.bound .cancel s t)
    ∧ (a.state = .settled →
        exec (.saleClear .station (.fields n)) s =
          .next (reply 0x29 .ok (.saleCleared a.serial (s.auth.sales.filter (· != a.serial)).length)
            { s with
              auth :=
                { s.auth with
                  slots := s.auth.slots.set k.val none, sales := s.auth.sales.filter (· != a.serial) } }))
    ∧ (a.state ≠ .settled →
        exec (.saleClear .station (.fields n)) s = .next (reply 0x29 .wrongState (.recordState (some a.state)) s))

/-- R50, R56, R60: a live timer that expires in its state. The online timer frees the record, or stands it in where
the profile allows, and presents the points in CALLING of the lane whose live record it is (R44) for binding; the arming
timer frees it; the idle-close timer settles it. AUTH_RESULT(STANDIN) stands before the notices of the bindings
(DEDUCED, log 67). A timer that does not run in that state does nothing (the model's choice, log 4). -/
def Obligations.RecordTimersExpire : Prop :=
  ∀ (k : Slot) (a : AuthRecord) (left : Nat) (s : State), s.slot k = some a →
    let freed : State := { s with auth := { s.auth with slots := s.auth.slots.set k.val none } }
    let hold := min a.requested a.snapshot.floorLimit
    (a.state = .awaitOnline → a.timer = some ⟨.online, left⟩ →
      a.snapshot.onlineMode ≠ .onlinePreferred ∨ a.snapshot.floorLimit = 0 →
      exec (.onlineTimerExpiry k) s = .next (pushNotice (.authResult a.serial a.lane .declinedTimeout 0) freed))
    ∧ (a.state = .awaitOnline → a.timer = some ⟨.online, left⟩ → a.snapshot.onlineMode = .onlinePreferred →
        0 < a.snapshot.floorLimit → s.liveSlot a.lane = some k →
        ∃ t, exec (.onlineTimerExpiry k) s = .next t
          ∧ lanePresented a.lane k
            (pushNotice (.authResult a.serial a.lane .standin hold)
              { s with
                auth :=
                  { s.auth with
                    slots := s.auth.slots.set k.val
                      (some
                        { a with
                          state := .armed, hold := some hold, flags := { a.flags with standin := true }
                          timer := some ⟨.arming, s.site.armingTime * 10000⟩ }) } }) t)
    ∧ (a.state = .armed → a.timer = some ⟨.arming, left⟩ →
        exec (.armingTimerExpiry k) s = .next (pushNotice (.authResult a.serial a.lane .expired 0) freed))
    ∧ (a.state = .idleOpen → a.timer = some ⟨.idleClose, left⟩ →
        ∃ t, exec (.idleCloseExpiry k) s = .next t ∧ settles k a (a.endReason.getD .idleClose) s t)
    ∧ (a.timer = none →
        exec (.onlineTimerExpiry k) s = .next s ∧ exec (.armingTimerExpiry k) s = .next s
          ∧ exec (.idleCloseExpiry k) s = .next s)

/-! ### Fuelling points -/

/-- R89, R90, R57, R73, R113: a lift. Of a nozzle LIFTED already, nothing (the model's choice, log 5); at an unfitted
point and in a state that takes no lift, the nozzle field alone; in OUT_OF_SERVICE the notice POINT_EVENT(LIFT_OOS);
in IDLE with no record that admits the point, CALLING; at M in IDLE under an ARMED record whose limit leaves more than
the close-ahead, with pump A STOPPED and no satellite in CALLING: the DSL line opens with its allowance and limit, the
point is bound and waits in WAIT_PUMP, the record is DELIVERING, and the pump starts. -/
def Obligations.LiftActs : Prop :=
  ∀ (p : Point) (s : State),
    let u := s.point p
    let withCtl (c : PointRecord) : State := { s with points := s.points.set p.val { u with ctl := c } }
    let lifted := withCtl { u.ctl with nozzle := .lifted }
    (u.ctl.nozzle = .lifted → exec (.nozzleLift p) s = .next s)
    ∧ (u.ctl.nozzle = .hung →
        (s.fitted p = false ∨ (u.ctl.state ≠ .idle ∧ u.ctl.state ≠ .outOfService ∧ u.ctl.state ≠ .proving) →
          exec (.nozzleLift p) s = .next lifted)
        ∧ (s.fitted p = true → u.ctl.state = .outOfService →
            exec (.nozzleLift p) s = .next (pushNotice (.pointLiftOos p) lifted))
        ∧ (s.fitted p = true → u.ctl.state = .idle →
            (∀ k a, s.liveSlot (laneOf p) = some k → s.slot k = some a →
              a.state = .awaitOnline ∨ a.flags.closing = true ∨ a.snapshot.allowed.has (s.productOf p) = false) →
            exec (.nozzleLift p) s = .next (withCtl { u.ctl with nozzle := .lifted, state := .calling }))
        ∧ (∀ k a, placeOf p = .m → u.ctl.state = .idle → s.liveSlot (laneOf p) = some k → s.slot k = some a →
            a.state = .armed → a.flags.closing = false → a.snapshot.allowed.dsl = true → a.lines.dsl = blankLine →
            a.bound = [] → a.delivered = [] → (s.pump .a).state = .stopped → (s.pump .a).demand = [] →
            (s.point (pointS (laneOf p))).ctl.state ≠ .calling →
            let money := a.hold.getD 0 - (a.lines.rfr.charge + a.lines.defl.charge)
            let bought := min (volForMoney money s.products.dsl.price) s.site.deliveryMax
            let limit := min (a.onlineLimit.getD bought) (min (a.snapshot.capRemaining.getD bought) bought)
            s.products.dsl.closeAhead < limit →
            exec (.nozzleLift p) s = .next
              (pushNotice (.pumpStarted .a)
                { s with
                  points :=
                    s.points.set p.val
                      { u with
                        meter := { u.meter with reverseFound := false }
                        ctl :=
                          { u.ctl with
                            nozzle := .lifted, state := .waitPump, binding := some ⟨a.serial, .dsl⟩, suspendCause := none
                            stopPending := none, timer := none
                            delivery := some
                              { serial := a.serial, line := .dsl, net := 0, peak := 0, volume := 0, degraded := false
                                sat := false, start := s.now, endReason := none, backLink := none, final := false } } }
                  auth :=
                    { s.auth with
                      slots :=
                        s.auth.slots.set k.val
                          (some
                            { a with
                              state := .delivering, timer := none, bound := [p]
                              lines :=
                                { a.lines with
                                  dsl :=
                                    { blankLine with
                                      state := .opened, price := some s.products.dsl.price, allowance := money
                                      limit := limit, members := [⟨p, 0⟩] } } }) }
                  pumps :=
                    { s.pumps with
                      a :=
                        { s.pumps.a with
                          state := .starting, demand := [p], timer := some ⟨.spinUp, s.site.pumpA.spinUp * 1000⟩ } } })))

/-- R56 to R58, R73, R74, R81, R90 to R92, R113, R115, R116, R118: a lift, or a FAULT CLEAR at a lifted point, that
finds a live record on the lane. The point enters CALLING and takes the record's answer (`takesAnswer`): it waits; it
is FINISHED with ALREADY_DELIVERED; or it binds and its line opens or is joined, it finishes with NO_FUNDS or LIMIT, or
it goes on to its pump in whatever state that is, and M takes the lane's waiting satellite with it. A line joined, and
the DSL line of a record that reserves for another line, is evaluated: within the close-ahead its bound members finish
with LIMIT, within the slow-down band those in FAST or SOFT_START move to SLOW_DOWN, and the others stay. The DSL line
is evaluated before the point joins its pump (DEDUCED, log 67). -/
def Obligations.PointsBind : Prop :=
  ∀ (n : Byte) (p : Point) (k : Slot) (s : State), s.fitted p = true → (s.point p).ctl.stage = .closed →
    s.liveSlot (laneOf p) = some k →
    let u := s.point p
    let calling (c : PointRecord) : State := { s with points := s.points.set p.val { u with ctl := c } }
    (u.ctl.nozzle = .hung → u.ctl.state = .idle →
      ∃ t, exec (.nozzleLift p) s = .next t
        ∧ takesAnswer p k (calling { u.ctl with nozzle := .lifted, state := .calling }) t)
    ∧ (n.toNat = p.val + 1 → u.ctl.nozzle = .lifted → u.ctl.state = .outOfService → u.meter.loss = .normal →
        ∃ t, exec (.faultClear .station (.fields n)) s =
            .next (reply 0x25 .ok (.pointState (t.point p).ctl.state) t)
          ∧ takesAnswer p k (calling { u.ctl with faultLatch := false, state := .calling }) t)

/-- R102, R104, R183, R184: a hang-up. Of a nozzle HUNG already, nothing (the model's choice, log 5); at an unfitted
point, and unbound in a state that takes no hang-up, the nozzle field alone: so of a proving run in DONE, and in
LIFT_WAIT, where no hang-up arises (the model's choice, log 51); from PUMP_WAIT to DRAIN `ProvingRuns` has it. Unbound
in CALLING or FINISHED, IDLE; bound, in any state, the valve closes, the delivery becomes final with its own end reason
or HANG_UP and merges, and the point enters IDLE, or OUT_OF_SERVICE with its fault latch set. A record that settles
CLOSING without a reason takes CANCEL, in states no run reaches (the model's choice, log 39). -/
def Obligations.HangUpActs : Prop :=
  ∀ (p : Point) (s : State),
    let u := s.point p
    let withCtl (c : PointRecord) : State := { s with points := s.points.set p.val { u with ctl := c } }
    (u.ctl.nozzle = .hung → exec (.hangUp p) s = .next s)
    ∧ (u.ctl.nozzle = .lifted →
        (s.fitted p = false ∨ (u.ctl.binding = none
            ∧ (u.ctl.state = .idle ∨ u.ctl.state = .outOfService
              ∨ (u.ctl.state = .proving ∧ ∀ r, u.ctl.proving = some r → r.phase = .liftWait ∨ r.phase = .done))) →
          exec (.hangUp p) s = .next (withCtl { u.ctl with nozzle := .hung }))
        ∧ (s.fitted p = true → u.ctl.binding = none → u.ctl.state = .calling ∨ u.ctl.state = .finished →
            exec (.hangUp p) s =
              .next (withCtl { u.ctl with nozzle := .hung, state := .idle, finishReason := none, timer := none }))
        ∧ (∀ b k a d, s.fitted p = true → u.ctl.binding = some b → s.slotOfSerial b.serial = some k →
            s.slot k = some a → a.state = .delivering → u.ctl.delivery = some d →
            ∃ t, exec (.hangUp p) s = .next t ∧ merges p k a d (d.endReason.getD .hangUp) s t
              ∧ (d.line = .dsl ∨ a.lines.dsl.state ≠ .opened → leavesDemand p s t)
              ∧ (d.line = .dsl ∨ p ∉ a.lines.dsl.members.map Member.point →
                  (t.point p).monitor = closedMonitor u)
              ∧ (d.line = .dsl ∨ p ∉ a.lines.dsl.members.map Member.point →
                (t.point p).ctl =
                  { u.ctl with
                    state := if u.ctl.faultLatch then .outOfService else .idle
                    stage := .closed, nozzle := .hung, binding := none, suspendCause := none, finishReason := none
                    softReason := none, stopPending := none, timer := none, delivery := (t.point p).ctl.delivery })))

/-- R94, R95, R97: STOP POINT. IMMEDIATE finishes a point in SOFT_START, FAST, SLOW_DOWN or STOPPING with HOST_STOP,
and either mode one in SUSPENDED; SOFT moves an open point before STOPPING to STOPPING, on the slow stage, with its
stop reference and soft-stop timer, and leaves one in STOPPING; any other state is refused WRONG_STATE. Undefined
modes, then point numbers, are refused first. The reply carries state and stage. -/
def Obligations.StopPointActs : Prop :=
  ∀ (f : StopPointF) (p : Point) (s : State),
    let u := s.point p
    let open3 := u.ctl.state = .softStart ∨ u.ctl.state = .fast ∨ u.ctl.state = .slowDown
    (f.mode ≠ 1 → f.mode ≠ 2 →
      exec (.stopPoint .station (.fields f)) s = .next (reply 0x22 .malformed .none s))
    ∧ (f.mode = 1 ∨ f.mode = 2 → f.point = 0 ∨ 18 < f.point.toNat →
        exec (.stopPoint .station (.fields f)) s = .next (reply 0x22 .outOfRange .none s))
    ∧ (f.point.toNat = p.val + 1 →
        ((f.mode = 1 ∧ (open3 ∨ u.ctl.state = .stopping)) ∨ ((f.mode = 1 ∨ f.mode = 2) ∧ u.ctl.state = .suspended) →
          ∃ t, exec (.stopPoint .station (.fields f)) s = .next (reply 0x22 .ok (.pointStage .finished .closed) t)
            ∧ finishes p .hostStop s t)
        ∧ (f.mode = 2 → open3 → u.ctl.stage ≠ .closed →
            exec (.stopPoint .station (.fields f)) s =
              .next (reply 0x22 .ok (.pointStage .stopping .slow)
                { s with
                  points :=
                    s.points.set p.val
                      { u with
                        ctl :=
                          { u.ctl with
                            state := .stopping, stage := .slow, softReason := some .hostStop
                            stopRef := (u.ctl.delivery.map Delivery.volume).getD 0
                            timer := some ⟨.softStop, s.site.softStopTime * 10000⟩ } } }))
        ∧ (f.mode = 2 → u.ctl.state = .stopping →
            exec (.stopPoint .station (.fields f)) s = .next (reply 0x22 .ok (.pointStage .stopping u.ctl.stage) s))
        ∧ (f.mode = 1 ∨ f.mode = 2 → ¬ open3 → u.ctl.state ≠ .stopping → u.ctl.state ≠ .suspended →
            exec (.stopPoint .station (.fields f)) s =
              .next (reply 0x22 .wrongState (.pointStage u.ctl.state u.ctl.stage) s)))

/-- R98, R99: SUSPEND POINT closes an open point into SUSPENDED with cause HOST, its stop pending when it was STOPPING,
and its suspension timer; RESUME POINT finishes a suspended point with its stop pending, or sends it on to its pump:
with PUMP_FAIL on a FAILED pump, to WAIT_PUMP on one that is STARTING or STOPPED, which starts (R113), or open on a
RUNNING or RUN_ON pump by the line's remainder (R81). Other states are refused WRONG_STATE, a set ESTOP latch
SITE_STOPPED, point numbers outside 1 to 18 OUT_OF_RANGE. -/
def Obligations.SuspendAndResume : Prop :=
  ∀ (n : Byte) (p : Point) (s : State),
    let u := s.point p
    let flowing := u.ctl.state = .softStart ∨ u.ctl.state = .fast ∨ u.ctl.state = .slowDown ∨ u.ctl.state = .stopping
    (n = 0 ∨ 18 < n.toNat →
      exec (.suspendPoint .station (.fields n)) s = .next (reply 0x23 .outOfRange .none s)
        ∧ exec (.resumePoint .station (.fields n)) s = .next (reply 0x24 .outOfRange .none s))
    ∧ (n.toNat = p.val + 1 →
        (flowing →
          ∃ t, exec (.suspendPoint .station (.fields n)) s = .next (reply 0x23 .ok .none t)
            ∧ equipmentOnly s t ∧ othersKept p s t ∧ unitKept u (t.point p) ∧ leavesDemand p s t
            ∧ (t.point p).monitor = closedMonitor u
            ∧ (t.point p).ctl =
              { u.ctl with
                state := .suspended, stage := .closed, suspendCause := some .host, softReason := none
                stopPending := if u.ctl.state = .stopping then u.ctl.softReason else none
                timer := some ⟨.suspension, s.site.suspensionLimit * 10000⟩ })
        ∧ (¬ flowing → exec (.suspendPoint .station (.fields n)) s = .next (reply 0x23 .wrongState .none s))
        ∧ (s.sup.estopLatch = true →
            exec (.resumePoint .station (.fields n)) s = .next (reply 0x24 .siteStopped .none s))
        ∧ (s.sup.estopLatch = false → u.ctl.state ≠ .suspended →
            exec (.resumePoint .station (.fields n)) s = .next (reply 0x24 .wrongState .none s))
        ∧ (s.sup.estopLatch = false → u.ctl.state = .suspended →
            (∀ r, u.ctl.stopPending = some r →
              ∃ t, exec (.resumePoint .station (.fields n)) s = .next (reply 0x24 .ok (.pointState .finished) t)
                ∧ finishes p r s t)
            ∧ (u.ctl.stopPending = none → u.ctl.stage = .closed →
                ∃ t, exec (.resumePoint .station (.fields n)) s =
                    .next (reply 0x24 .ok (.pointState (t.point p).ctl.state) t)
                  ∧ waitsForPump p s t)))

/-- R95, R100, R103: the point timers. In STOPPING the soft-stop timer finishes the point with the soft stop's reason;
in SUSPENDED the suspension timer finishes it with SUSPEND_TIMEOUT; in FINISHED the drain timer merges the delivery,
and the point stays FINISHED and unbound, or is OUT_OF_SERVICE with its fault latch set. A timer that does not run
does nothing (the model's choice, log 4). A record that settles CLOSING without a reason takes CANCEL, in states no run
reaches (the model's choice, log 39). -/
def Obligations.PointTimersExpire : Prop :=
  ∀ (p : Point) (left : Nat) (s : State),
    let u := s.point p
    (∀ r, u.ctl.state = .stopping → u.ctl.timer = some ⟨.softStop, left⟩ → u.ctl.softReason = some r →
      ∃ t, exec (.softStopTimerExpiry p) s = .next t ∧ finishes p r s t)
    ∧ (u.ctl.state = .suspended → u.ctl.timer = some ⟨.suspension, left⟩ →
        ∃ t, exec (.suspensionTimerExpiry p) s = .next t ∧ finishes p .suspendTimeout s t)
    ∧ (∀ b k a d r, u.ctl.state = .finished → u.ctl.timer = some ⟨.drain, left⟩ → u.ctl.binding = some b →
        s.slotOfSerial b.serial = some k → s.slot k = some a → a.state = .delivering → u.ctl.delivery = some d →
        d.endReason = some r →
        ∃ t, exec (.drainTimerExpiry p) s = .next t ∧ merges p k a d r s t
          ∧ (t.point p).monitor = u.monitor ∧ (d.line = .dsl ∨ a.lines.dsl.state ≠ .opened → t.pumps = s.pumps)
          ∧ (t.point p).ctl =
            { u.ctl with
              state := if u.ctl.faultLatch then .outOfService else .finished
              binding := none, finishReason := if u.ctl.faultLatch then none else u.ctl.finishReason
              timer := none, delivery := (t.point p).ctl.delivery })
    ∧ (u.ctl.timer = none →
        exec (.softStopTimerExpiry p) s = .next s ∧ exec (.suspensionTimerExpiry p) s = .next s
          ∧ exec (.drainTimerExpiry p) s = .next s)

/-- R107: FAULT CLEAR. Outside OUT_OF_SERVICE it is refused WRONG_STATE, under declared channel loss INPUT_ACTIVE;
else the latch is cleared and the point enters IDLE when hung or unfitted, and CALLING when fitted and lifted (here
with no record that admits it). -/
def Obligations.FaultClears : Prop :=
  ∀ (n : Byte) (p : Point) (s : State),
    let u := s.point p
    let cleared (st : PointState) : State :=
      { s with points := s.points.set p.val { u with ctl := { u.ctl with faultLatch := false, state := st } } }
    (n = 0 ∨ 18 < n.toNat → exec (.faultClear .station (.fields n)) s = .next (reply 0x25 .outOfRange .none s))
    ∧ (n.toNat = p.val + 1 →
        (u.ctl.state ≠ .outOfService →
          exec (.faultClear .station (.fields n)) s = .next (reply 0x25 .wrongState .none s))
        ∧ (∀ live, u.ctl.state = .outOfService → u.meter.loss = .declared live →
            exec (.faultClear .station (.fields n)) s = .next (reply 0x25 .inputActive .none s))
        ∧ (u.ctl.state = .outOfService → u.meter.loss = .normal → s.fitted p = false ∨ u.ctl.nozzle = .hung →
            exec (.faultClear .station (.fields n)) s = .next (reply 0x25 .ok (.pointState .idle) (cleared .idle)))
        ∧ (u.ctl.state = .outOfService → u.meter.loss = .normal → s.fitted p = true → u.ctl.nozzle = .lifted →
            (∀ k a, s.liveSlot (laneOf p) = some k → s.slot k = some a →
              a.state = .awaitOnline ∨ a.flags.closing = true ∨ a.snapshot.allowed.has (s.productOf p) = false) →
            exec (.faultClear .station (.fields n)) s =
              .next (reply 0x25 .ok (.pointState .calling) (cleared .calling))))

/-! ### Metering units and flow monitors -/

/-- R122, R123, R124, R125: the decoder. A pair that is the one standing, and any pair at an unfitted point, changes
the input pair alone (the model's choice, logs 5 and 23). Else the pair is loaded, the mark joins the noise window,
the run counts of the channels follow, the cycle progress moves as the table gives, and a phase error is one PHASE
count. A step that gives no count, declares no channel loss and leaves the noise criterion unmet changes nothing
outside its metering unit. -/
def Obligations.TransitionsAreDecoded : Prop :=
  ∀ (p : Point) (after : Pair) (order : CountOrder) (s : State),
    let u := s.point p
    let m := u.meter
    let step := forwardStep m.pair after ∨ forwardStep after m.pair
    (s.fitted p = false ∨ m.pair = after →
      exec (.meterTransition p after order) s =
        .next { s with points := s.points.set p.val { u with inputPair := after } })
    ∧ (s.fitted p = true → m.pair ≠ after →
        ∃ t, exec (.meterTransition p after order) s = .next t
          ∧ (t.point p).inputPair = after ∧ (t.point p).meter.pair = after
          ∧ (t.point p).meter.marks.length = min (m.marks.length + 1) 256
          ∧ (t.point p).meter.marks.tail = m.marks.take 255
          ∧ ((t.point p).meter.marks.head? = some false ↔ step)
          ∧ (m.loss = .normal →
              (step → m.pair.b = after.b →
                (t.point p).meter.runA = min (m.runA + 1) 16 ∧ (t.point p).meter.runB = 0)
              ∧ (step → m.pair.a = after.a →
                  (t.point p).meter.runB = min (m.runB + 1) 16 ∧ (t.point p).meter.runA = 0)
              ∧ (¬ step → (t.point p).meter.runA = 0 ∧ (t.point p).meter.runB = 0))
          ∧ (step → after = ⟨false, false⟩ → (t.point p).meter.progress = .at 0)
          ∧ (after ≠ ⟨false, false⟩ → ¬ step → (t.point p).meter.progress = .abandoned)
          ∧ (after ≠ ⟨false, false⟩ → m.progress = .abandoned → (t.point p).meter.progress = .abandoned)
          ∧ (∀ n, after ≠ ⟨false, false⟩ → m.progress = .at n →
              (forwardStep m.pair after → (t.point p).meter.progress = .at (n + 1))
              ∧ (forwardStep after m.pair → (t.point p).meter.progress = .at (n - 1)))
          ∧ (¬ step → (s.counters p).phase < 65535 → (t.counters p).phase = (s.counters p).phase + 1)
          ∧ (step → (t.counters p).phase = (s.counters p).phase)
          ∧ (∀ q, q ≠ p → t.counters q = s.counters q)
          ∧ (step → after ≠ ⟨false, false⟩ → m.loss = .normal → m.runA < 15 → m.runB < 15 → noiseFree u →
              t = { s with points := t.points } ∧ othersKept p s t
                ∧ t.point p = { u with meter := (t.point p).meter, inputPair := after }))

/-- R131, R132, R133, R134: where counts go. A forward count at a point that is neither bound nor proving raises its
unauthorised count and UNAUTH counter, and the twentieth raises the alarm. At a bound point it moves N, N_max and V,
loads the time of first flow and forms the line volume and amount again. A reverse count of a bound point lowers N;
the first fall from the peak beyond the allowance sets the fault latch, raises REVERSE_FLOW and its counter, and
closes the point. A reverse count at a point that is neither bound nor proving is counted nowhere. -/
def Obligations.CountsAreTaken : Prop :=
  ∀ (p : Point) (after : Pair) (order : CountOrder) (s : State), s.fitted p = true →
    let u := s.point p
    let m := u.meter
    (countsForward m after → u.ctl.binding = none → u.ctl.state ≠ .proving → u.monitor.active = false →
      ∃ t, exec (.meterTransition p after order) s = .next t
        ∧ t = { s with
                points := t.points, sup := { s.sup with pointAlarms := t.sup.pointAlarms, counters := t.sup.counters }
                link := t.link }
        ∧ linkKept s t ∧ othersKept p s t ∧ (t.point p).ctl = u.ctl ∧ (t.point p).totaliser = u.totaliser
        ∧ (t.point p).meter.unauthorised = min (m.unauthorised + 1) 65535
        ∧ (t.counters p).unauth = min ((s.counters p).unauth + 1) (max (s.counters p).unauth 65535)
        ∧ (m.unauthorised = 19 → ((t.sup.pointAlarms[p.val]).get .unauthFlow).latched = true))
    ∧ (∀ k a d, countsForward m after → boundTo p k a d s → u.ctl.state ≠ .proving →
        let net := min (d.net + 1) 999999999
        let l := a.lines.get d.line
        let members := setMember p (volumeOf u.cal net) l.members
        ∃ t e b, exec (.meterTransition p after order) s = .next t
          ∧ t = { s with
                  auth := { s.auth with slots := t.auth.slots }, points := t.points, pumps := t.pumps
                  sup :=
                    { s.sup with
                      pointAlarms := t.sup.pointAlarms, counters := t.sup.counters, siteAlarms := t.sup.siteAlarms }
                  link := t.link }
          ∧ linkKept s t ∧ slotsKept k s t ∧ (∀ q, q ≠ p → l.hasMember q = false → t.point q = s.point q)
          ∧ (t.point p).totaliser = u.totaliser ∧ (t.point p).meter.unauthorised = m.unauthorised
          ∧ (t.point p).ctl.binding = u.ctl.binding ∧ (t.point p).ctl.delivery = some e
          ∧ e = { d with
                  net := net, peak := max d.peak net, volume := volumeOf u.cal net
                  sat := d.sat || volumeSaturates u.cal net, endReason := e.endReason }
          ∧ t.slot k = some b
          ∧ b = { a with
                  firstFlow := some (a.firstFlow.getD s.now), flags := { a.flags with sat := b.flags.sat }
                  lines :=
                    a.lines.set d.line
                      { l with
                        members := members, volume := min (memberSum members) 9999999
                        amount := amountOf (min (memberSum members) 9999999) (l.price.getD 0) } })
    ∧ (countsReverse m after → u.ctl.binding = none → u.ctl.state ≠ .proving → noiseFree u →
        ∃ t, exec (.meterTransition p after order) s = .next t
          ∧ t = { s with points := t.points } ∧ othersKept p s t
          ∧ t.point p = { u with meter := (t.point p).meter, inputPair := after }
          ∧ (t.point p).meter.unauthorised = m.unauthorised ∧ (t.point p).meter.reverseFound = m.reverseFound)
    ∧ (∀ k a d, countsReverse m after → boundTo p k a d s → u.ctl.state ≠ .proving →
        let net := max (d.net - 1) (-999999999)
        ∃ t e, exec (.meterTransition p after order) s = .next t ∧ slotsKept k s t
          ∧ (t.point p).ctl.delivery = some e ∧ e.net = net ∧ e.peak = max d.peak net ∧ e.volume = volumeOf u.cal net
          ∧ (m.reverseFound = false → (u.config.reverseAllowance : Int) < max d.peak net - net →
              (t.point p).meter.reverseFound = true ∧ (t.point p).ctl.faultLatch = true
                ∧ ((t.sup.pointAlarms[p.val]).get .reverseFlow).latched = true
                ∧ ((s.counters p).reverse < 65535 → (t.counters p).reverse = (s.counters p).reverse + 1)
                ∧ (u.ctl.state ≠ .finished → (t.point p).ctl.state = .finished ∧ (t.point p).ctl.stage = .closed))
          ∧ ((max d.peak net - net : Int) ≤ u.config.reverseAllowance →
              (t.point p).meter.reverseFound = m.reverseFound
                ∧ (t.counters p).reverse = (s.counters p).reverse))

/-- R79, R80, R93, R95, R132: what the forward count of a bound point does at its line and at the point, with r the
remainder after it. With r at or below the close-ahead, every bound member not yet FINISHED closes and finishes with
LIMIT. With r within the slow-down band, every member in FAST or SOFT_START moves to SLOW_DOWN. Above both, SOFT_START
moves to FAST at the start band, its settle count 0 (R147), and STOPPING finishes at the soft-stop volume. -/
def Obligations.LimitsClose : Prop :=
  ∀ (p : Point) (after : Pair) (order : CountOrder) (s : State) (k : Slot) (a : AuthRecord) (d : Delivery),
    s.fitted p = true → countsForward (s.point p).meter after → boundTo p k a d s → (s.point p).ctl.state ≠ .proving →
    (a.lines.get d.line).state = .opened →
    let u := s.point p
    let v := volumeOf u.cal (min (d.net + 1) 999999999)
    let l := a.lines.get d.line
    let r : Int := (l.limit : Int) - (min (memberSum (setMember p v l.members)) 9999999 : Nat)
    let e := s.product d.line
    let steady := u.monitor.count + 1 < u.monitor.size ∧ noiseFree u
    ∃ t, exec (.meterTransition p after order) s = .next t
      ∧ (r ≤ e.closeAhead → ∀ q b, l.hasMember q = true → (s.point q).ctl.binding = some b → b.serial = a.serial →
          (s.point q).ctl.state ≠ .finished →
          (t.point q).ctl.state = .finished ∧ (t.point q).ctl.finishReason = some .limit
            ∧ (t.point q).ctl.stage = .closed)
      ∧ (e.closeAhead < r → r ≤ e.slowDown → u.ctl.state = .fast ∨ u.ctl.state = .softStart → steady →
          (t.point p).ctl.state = .slowDown ∧ (t.point p).ctl.stage = .slow)
      ∧ (e.closeAhead < r → r ≤ e.slowDown → ∀ q b, q ≠ p → l.hasMember q = true →
          (s.point q).ctl.binding = some b → b.serial = a.serial →
          (s.point q).ctl.state = .fast ∨ (s.point q).ctl.state = .softStart →
          (t.point q).ctl.state = .slowDown ∧ (t.point q).ctl.stage = .slow)
      ∧ (e.closeAhead < r → e.slowDown < r → steady → s.productOf p = d.line → u.ctl.state = .softStart →
          (u.ctl.startRef + e.startBand ≤ v →
            (t.point p).ctl.state = .fast ∧ (t.point p).ctl.stage = .fast ∧ (t.point p).monitor.settle = 0)
          ∧ (v < u.ctl.startRef + e.startBand →
              (t.point p).ctl.state = .softStart ∧ (t.point p).ctl.stage = u.ctl.stage))
      ∧ (∀ x, e.closeAhead < r → s.productOf p = d.line → u.ctl.state = .stopping → u.ctl.softReason = some x →
          u.ctl.stopRef + e.softStop ≤ v →
          (t.point p).ctl.state = .finished ∧ (t.point p).ctl.finishReason = some x
            ∧ (t.point p).ctl.stage = .closed)

/-- R148, R152, R97, R184: the no-flow limit, where T stands at it at an active monitor that is not frozen. A bound
point closes and finishes with NO_FLOW; a proving run before DRAIN closes into it with NO_FLOW; the NOFLOW counter
rises. At an inactive or frozen monitor, and where the window has been completed first so that T is below the limit,
nothing happens. -/
def Obligations.NoFlowCloses : Prop :=
  ∀ (p : Point) (s : State),
    let u := s.point p
    (u.monitor.active = false ∨ u.monitor.frozen = true ∨ u.monitor.ticks < u.monitor.noFlowLimit →
      exec (.noFlowLimit p) s = .next s)
    ∧ (u.monitor.active = true → u.monitor.frozen = false → u.monitor.noFlowLimit ≤ u.monitor.ticks →
        ∃ t, exec (.noFlowLimit p) s = .next t
          ∧ t = { s with
                  points := t.points, pumps := t.pumps, link := t.link
                  sup := { s.sup with pointAlarms := t.sup.pointAlarms, counters := t.sup.counters } }
          ∧ linkKept s t ∧ othersKept p s t ∧ unitKept u (t.point p)
          ∧ (t.point p).monitor.frozen = true ∧ (t.point p).monitor.ticks = u.monitor.noFlowLimit
          ∧ ((s.counters p).noflow < 65535 → (t.counters p).noflow = (s.counters p).noflow + 1)
          ∧ (u.ctl.binding ≠ none → u.ctl.state ≠ .finished → u.ctl.state ≠ .proving →
              leavesDemand p s t
              ∧ (u.ctl.stage ≠ .closed → (t.point p).monitor.active = false)
              ∧ (t.point p).ctl =
                { u.ctl with
                  state := .finished, stage := .closed, finishReason := some .noFlow, suspendCause := none
                  softReason := none, stopPending := none, timer := some ⟨.drain, s.site.drainTime * 10000⟩
                  delivery := u.ctl.delivery.map fun d => { d with endReason := some .noFlow } })
          ∧ (∀ r, u.ctl.state = .proving → u.ctl.proving = some r → r.phase ≠ .drain → r.phase ≠ .done →
              leavesDemand p s t
              ∧ (t.point p).ctl =
                { u.ctl with
                  stage := .closed, timer := some ⟨.drain, s.site.drainTime * 10000⟩
                  proving := some { r with phase := .drain, endCause := r.endCause.or (some .noFlow) } }))

/-- R98, R144 to R147, R149 to R151, R184: a forward count at an active monitor that is not frozen, where the place of
the count leaves stage and state alone. Short of the window size it raises the window count. Else the window completes
with period and rate, the peak, minimum, settle count and reference follow, and the next window begins with the
settings as stored. At the fast stage with the settle count at 3 the period is compared with the reference: longer by
more than the tolerance, FLOW_DROP is raised and nothing else; shorter by more, SURGE is raised and counted, and with
surge hold a bound point is SUSPENDED with cause SURGE, without it the point goes on, and a proving run enters DRAIN.
-/
def Obligations.FlowWindows : Prop :=
  ∀ (p : Point) (after : Pair) (order : CountOrder) (s : State), s.fitted p = true →
    countsForward (s.point p).meter after → noiseFree (s.point p) → calmCount p s →
    (s.point p).monitor.active = true → (s.point p).monitor.frozen = false →
    let u := s.point p
    let m := u.monitor
    let period := max m.ticks 1
    let next := nextWindow u period
    let fast := u.ctl.state = .fast ∨ (u.ctl.state = .proving ∧ s.provePhase p = some .fast)
    let tests (ref : Nat) : Prop := m.size ≤ m.count + 1 ∧ fast ∧ m.settle = 3 ∧ m.reference = some ref
    let allowance (ref : Nat) : Nat := ref * (u.config.surgeCode + 1) / 16
    let cells := s.sup.pointAlarms[p.val]
    ∃ t, exec (.meterTransition p after order) s = .next t ∧
      let found := t.sup.pointAlarms[p.val]
      let goesOn (x : Monitor) : Prop :=
        (t.point p).monitor = x ∧ t.pumps = s.pumps
          ∧ (t.point p).ctl =
            { u.ctl with delivery := (t.point p).ctl.delivery, proving := (t.point p).ctl.proving }
          ∧ t.provePhase p = s.provePhase p
      let noSurge := found.surge = cells.surge ∧ (t.counters p).surge = (s.counters p).surge
      (m.count + 1 < m.size →
        goesOn { m with count := m.count + 1 } ∧ noSurge ∧ found.flowDrop = cells.flowDrop)
      ∧ (m.size ≤ m.count + 1 → (∀ ref, tests ref → ref - period ≤ allowance ref ∧ period - ref ≤ allowance ref) →
          goesOn next ∧ noSurge ∧ found.flowDrop = cells.flowDrop)
      ∧ (∀ ref, tests ref → allowance ref < period - ref →
          goesOn next ∧ noSurge ∧ found.flowDrop.latched = true)
      ∧ (∀ ref, tests ref → allowance ref < ref - period →
          found.surge.latched = true ∧ found.flowDrop = cells.flowDrop
            ∧ ((s.counters p).surge < 65535 → (t.counters p).surge = (s.counters p).surge + 1)
            ∧ (u.ctl.state = .fast → u.config.surgeHold = false → goesOn next)
            ∧ (u.ctl.state = .fast → u.config.surgeHold = true →
                leavesDemand p s t ∧ (t.point p).monitor = closedMonitor { u with monitor := next }
                  ∧ (t.point p).ctl =
                    { u.ctl with
                      state := .suspended, stage := .closed, suspendCause := some .surge, softReason := none
                      stopPending := none, timer := some ⟨.suspension, s.site.suspensionLimit * 10000⟩
                      delivery := (t.point p).ctl.delivery })
            ∧ (∀ x, u.ctl.state = .proving → u.ctl.proving = some x →
                leavesDemand p s t ∧ (t.point p).monitor = closedMonitor { u with monitor := next }
                  ∧ (t.point p).ctl =
                    { u.ctl with
                      stage := .closed, timer := some ⟨.drain, s.site.drainTime * 10000⟩
                      proving := some
                        { x with
                          phase := .drain, net := min (x.net + 1) 999999999
                          peak := max x.peak (min (x.net + 1) 999999999)
                          endCause := x.endCause.or (some .surge) } }))

/-- R126, R127: the noise criterion after a transition. Noise met follows the marks: STRICT is met by more than 8 phase
errors among the newest 64, LENIENT by more than 32 of 256. Newly met, METER_NOISE is raised, and with the phase error
that meets it a bound point not yet FINISHED has its fault latch set and finishes with METER_NOISE, a FINISHED one has
its latch set, a proving run before DRAIN has the latch set and enters DRAIN, a run in DRAIN has the latch set, and a
point that is neither bound nor proving (a run in DONE too: the model's choice, log 25) takes the alarm alone. A
criterion that was met already, or is not, raises nothing. -/
def Obligations.NoiseActs : Prop :=
  ∀ (p : Point) (after : Pair) (order : CountOrder) (s : State), s.fitted p = true →
    (s.point p).meter.pair ≠ after →
    let u := s.point p
    let step := forwardStep u.meter.pair after ∨ forwardStep after u.meter.pair
    ∃ t, exec (.meterTransition p after order) s = .next t ∧
      let marks := (t.point p).meter.marks
      let met := if u.config.noise = .strict then 8 < (marks.take 64).count true else 32 < marks.count true
      let same := (t.sup.pointAlarms[p.val]).meterNoise = (s.sup.pointAlarms[p.val]).meterNoise
      marks.tail = u.meter.marks.take 255 ∧ (marks.head? = some false ↔ step)
      ∧ ((t.point p).meter.noiseMet = true ↔ met)
      ∧ (u.meter.noiseMet = true ∨ ¬ met → same)
      ∧ (u.meter.noiseMet = false → met → (t.sup.pointAlarms[p.val]).meterNoise.latched = true)
      ∧ (¬ step → u.meter.noiseMet = true ∨ ¬ met → (t.point p).ctl = u.ctl ∧ t.pumps = s.pumps)
      ∧ (¬ step → u.meter.noiseMet = false → met →
          othersKept p s t ∧ t.auth = s.auth
          ∧ (u.ctl.binding ≠ none → u.ctl.state ≠ .finished →
              leavesDemand p s t ∧ (t.point p).monitor = closedMonitor u
                ∧ (t.point p).ctl =
                  { u.ctl with
                    faultLatch := true, state := .finished, stage := .closed, finishReason := some .meterNoise
                    suspendCause := none, softReason := none, stopPending := none
                    timer := some ⟨.drain, s.site.drainTime * 10000⟩
                    delivery := u.ctl.delivery.map fun d => { d with endReason := some .meterNoise } })
          ∧ (u.ctl.binding ≠ none → u.ctl.state = .finished → (t.point p).ctl = { u.ctl with faultLatch := true })
          ∧ (∀ r, u.ctl.binding = none → u.ctl.state = .proving → u.ctl.proving = some r →
              (r.phase ≠ .drain → r.phase ≠ .done →
                leavesDemand p s t ∧ (t.point p).monitor = closedMonitor u
                  ∧ (t.point p).ctl =
                    { u.ctl with
                      faultLatch := true, stage := .closed, timer := some ⟨.drain, s.site.drainTime * 10000⟩
                      proving := some { r with phase := .drain, endCause := r.endCause.or (some .meterNoise) } })
              ∧ (r.phase = .drain → (t.point p).ctl = { u.ctl with faultLatch := true })
              ∧ (r.phase = .done → (t.point p).ctl = u.ctl))
          ∧ (u.ctl.binding = none → u.ctl.state ≠ .proving → (t.point p).ctl = u.ctl))

/-- R106, R128 to R130: channel loss. The sixteenth step of one channel in a row, the other unchanged, declares it with
that channel live: CHANNEL_LOSS and its counter are raised, the fault latch is set, 8 forward counts are taken where
counts go, a bound delivery and its record are DEGRADED, and an unbound point in IDLE, CALLING or FINISHED is
OUT_OF_SERVICE. While it is declared, sixteen steps of the other channel make that the live one and raise nothing; a
step that is no fall of the live channel counts nothing; each valid forward cycle raises the clear run, and a reverse
step or phase error empties it; and the sixty-fourth clears the loss, presents the fall of the alarm by its edge select
and leaves the fault latch. The order of these within one transition is the model's (log 24). -/
def Obligations.ChannelLossActs : Prop :=
  ∀ (p : Point) (after : Pair) (order : CountOrder) (s : State), s.fitted p = true →
    let u := s.point p
    let m := u.meter
    let step := forwardStep m.pair after ∨ forwardStep after m.pair
    let reaches (c : Channel) : Prop :=
      step ∧ channelLevel m.pair c ≠ channelLevel after c ∧ 15 ≤ m.run c ∧ m.run c ≠ 16
    let cell := (s.sup.pointAlarms[p.val]).channelLoss
    let valid := m.pair = ⟨true, false⟩ ∧ after = ⟨false, false⟩ ∧ m.progress = .at 3 ∧ 3 ≤ m.forwardRun
    (∀ c, m.loss = .normal → reaches c → m.progress ≠ .at 3 → m.progress ≠ .at (-3) → noiseFree u →
      ∃ t, exec (.meterTransition p after order) s = .next t
        ∧ (t.point p).meter.loss = .declared c ∧ (t.point p).meter.clearRun = 0
        ∧ ((t.sup.pointAlarms[p.val]).channelLoss).latched = true
        ∧ ((s.counters p).chloss < 65535 → (t.counters p).chloss = (s.counters p).chloss + 1)
        ∧ (t.point p).ctl.faultLatch = true
        ∧ (u.ctl.binding = none → u.ctl.state ≠ .proving →
            (t.point p).meter.unauthorised = min (m.unauthorised + 8) 65535
              ∧ (u.ctl.state = .idle ∨ u.ctl.state = .calling ∨ u.ctl.state = .finished →
                  (t.point p).ctl =
                    { u.ctl with faultLatch := true, state := .outOfService, finishReason := none, timer := none }))
        ∧ (∀ r, u.ctl.binding = none → u.ctl.state = .proving → u.ctl.proving = some r → r.phase ≠ .done →
            ∃ x, (t.point p).ctl.proving = some x ∧ x.net = min (r.net + 8) 999999999)
        ∧ (∀ k a d, boundTo p k a d s → u.ctl.state ≠ .proving →
            let net := min (d.net + 8) 999999999
            ∃ e b, (t.point p).ctl.delivery = some e ∧ t.slot k = some b
              ∧ e.net = net ∧ e.volume = volumeOf u.cal net ∧ e.degraded = true
              ∧ b.serial = a.serial ∧ b.flags.degraded = true
              ∧ (b.lines.get d.line).volume =
                min (memberSum (setMember p (volumeOf u.cal net) (a.lines.get d.line).members)) 9999999))
    ∧ (∀ live, m.loss = .declared live → m.pair ≠ after →
        ∃ t, exec (.meterTransition p after order) s = .next t
          ∧ (¬ (valid ∧ m.clearRun = 63) → m.clearRun < 64 →
              (t.sup.pointAlarms[p.val]).channelLoss = cell
              ∧ (t.counters p).chloss = (s.counters p).chloss
              ∧ (reaches live.other → (t.point p).meter.loss = .declared live.other)
              ∧ (¬ reaches live.other → (t.point p).meter.loss = .declared live)
              ∧ (valid → (t.point p).meter.clearRun = m.clearRun + 1)
              ∧ (¬ forwardStep m.pair after → (t.point p).meter.clearRun = 0))
          ∧ (noiseFree u → step → ¬ (channelLevel m.pair live = true ∧ channelLevel after live = false) →
              (t.point p).ctl = u.ctl ∧ (t.point p).meter.unauthorised = m.unauthorised
                ∧ (t.counters p).unauth = (s.counters p).unauth)
          ∧ (valid → m.clearRun = 63 → noiseFree u →
              (t.point p).meter.loss = .normal ∧ (t.point p).meter.clearRun = 0 ∧ (t.point p).meter.runA = 0
                ∧ (t.point p).meter.runB = 0 ∧ (t.point p).ctl.faultLatch = u.ctl.faultLatch
                ∧ (cell.edge = .rise → (t.sup.pointAlarms[p.val]).channelLoss = cell)
                ∧ (cell.edge = .riseFall →
                    (t.sup.pointAlarms[p.val]).channelLoss =
                        { cell with latched := true, notified := cell.notified || cell.mask }
                      ∧ (cell.mask = true → cell.notified = false → s.link.notices.length ≤ 56 →
                          t.link.notices.getLast? = some ⟨s.now, .pointAlarm .channelLoss p false⟩))))

/-! ### Supply pumps -/

/-- R92, R114, R115, R116, R117, R119, R183: a pump that comes up to pressure at the end of its spin-up, at an
assertion of READY in its ready wait, or at the end of a ready wait whose check has been turned off: the points and
proving runs that wait for it open, or a point finishes with LIMIT; the ready wait; the end of the run-on; PUMP RESET.
READY edges that are not acted on are recorded, that in a ready wait whose check has been turned off too (DEDUCED, log
45); one with the contact asserted already is none (the model's choice, log 5). A timer that does not run does nothing
(the model's choice, log 4). -/
def Obligations.PumpsComeUp : Prop :=
  ∀ (k : Pump) (left : Nat) (n : Byte) (s : State),
    let r := s.pump k
    let check := (s.pumpSettings k).readyCheck
    let withPump (x : PumpRecord) : State := { s with pumps := s.pumps.set k x }
    let asserted := withPump { r with ready := true }
    (r.state = .starting → r.timer = some ⟨.spinUp, left⟩ →
      (check = true → r.ready = false →
        exec (.spinUpExpiry k) s =
          .next (withPump { r with timer := some ⟨.readyWait, (s.pumpSettings k).readyWait * 10000⟩ }))
      ∧ (check = false ∨ r.ready = true → ∃ t, exec (.spinUpExpiry k) s = .next t ∧ comesUp k s t))
    ∧ (r.state = .starting → r.timer = some ⟨.readyWait, left⟩ → check = false →
        ∃ t, exec (.readyWaitExpiry k) s = .next t ∧ comesUp k s t)
    ∧ (r.ready = true → exec (.readyAssertion k) s = .next s)
    ∧ (r.ready = false →
        (r.state = .starting → r.timer = some ⟨.readyWait, left⟩ →
          (check = true → ∃ t, exec (.readyAssertion k) s = .next t ∧ comesUp k asserted t)
            ∧ (check = false → exec (.readyAssertion k) s = .next asserted))
        ∧ (r.state ≠ .starting ∨ r.timer = none ∨ r.timer = some ⟨.spinUp, left⟩ →
            exec (.readyAssertion k) s = .next asserted))
    ∧ (r.state = .runOn → r.timer = some ⟨.runOn, left⟩ →
        exec (.runOnExpiry k) s =
          .next (pushNotice (.pumpStopped k) (withPump { r with state := .stopped, timer := none })))
    ∧ (r.timer = none →
        exec (.spinUpExpiry k) s = .next s ∧ exec (.readyWaitExpiry k) s = .next s ∧ exec (.runOnExpiry k) s = .next s)
    ∧ (n = 0 ∨ 3 < n.toNat → exec (.pumpReset .station (.fields n)) s = .next (reply 0x48 .outOfRange .none s))
    ∧ (n = (match k with
          | .a => 1
          | .b => 2
          | .c => 3) →
        (r.state = .failed →
          exec (.pumpReset .station (.fields n)) s =
            .next (reply 0x48 .ok (.pump .stopped) (withPump { r with state := .stopped, cause := none })))
        ∧ (r.state ≠ .failed →
            exec (.pumpReset .station (.fields n)) s = .next (reply 0x48 .wrongState (.pump r.state) s)))

/-- R114, R117, R118: a pump fails with READY_TIMEOUT at the end of its ready wait with ready-check on, and with
READY_LOST at a deassertion of READY in RUNNING or RUN_ON with ready-check on, its RUN output off; the notice counts the
points finished, proving runs left out (the model's choice, log 26), and stands behind that of the alarm (the model's
choice, log 65). Any other deassertion is recorded alone, and one of
a contact that is deasserted changes nothing (the model's choice, log 5). -/
def Obligations.PumpsFail : Prop :=
  ∀ (k : Pump) (left : Nat) (s : State),
    let r := s.pump k
    let check := (s.pumpSettings k).readyCheck
    let lost : State := { s with pumps := s.pumps.set k { r with ready := false } }
    (r.state = .starting → r.timer = some ⟨.readyWait, left⟩ → check = true →
      ∃ t, exec (.readyWaitExpiry k) s = .next t ∧ pumpFails k .readyTimeout s t)
    ∧ (r.ready = false → exec (.readyDeassertion k) s = .next s)
    ∧ (r.ready = true →
        (check = true → r.state = .running ∨ r.state = .runOn →
          ∃ t, exec (.readyDeassertion k) s = .next t ∧ pumpFails k .readyLost lost t)
        ∧ (check = false ∨ (r.state ≠ .running ∧ r.state ≠ .runOn) →
            exec (.readyDeassertion k) s = .next lost))

/-! ### Site supervisor -/

/-- R63, R97, R120, R168, R184: an assertion of ESTOP that finds the latch clear. The latch is set, every valve is
closed, every bound point not yet FINISHED is finished with ESTOP, every proving run before DRAIN enters it, every pump
in STARTING, RUNNING or RUN_ON is STOPPED and no RUN output is on, records in AWAIT_ONLINE and ARMED are freed, those
in DELIVERING have CLOSING set, those in IDLE_OPEN settle, and the ESTOP notice stands first of what is queued. With
the latch set the edge acts on the alarm alone; with the input asserted already it is none (the model's choice, log 5).
-/
def Obligations.EstopStops : Prop :=
  ∀ s : State,
    (s.sup.estopInput = true → exec .estopAssertion s = .next s)
    ∧ (s.sup.estopInput = false → s.sup.estopLatch = true →
        ∃ t, exec .estopAssertion s = .next t ∧ linkKept s t
          ∧ t = { s with sup := { s.sup with estopInput := true, noticeBlock := t.sup.noticeBlock
                                             siteAlarms := t.sup.siteAlarms }
                         link := t.link }
          ∧ (t.sup.siteAlarms.get .estop).latched = true)
    ∧ (s.sup.estopInput = false → s.sup.estopLatch = false →
        ∃ t, exec .estopAssertion s = .next t ∧ linkKept s t
          ∧ t = { s with
                  auth := t.auth, screening := { s.screening with history := t.screening.history }, points := t.points
                  pumps := t.pumps, link := t.link
                  sup :=
                    { s.sup with
                      estopInput := true, estopLatch := true, noticeBlock := t.sup.noticeBlock
                      siteAlarms := t.sup.siteAlarms } }
          ∧ (t.sup.siteAlarms.get .estop).latched = true
          ∧ ((s.sup.siteAlarms.get .estop).mask = true → s.sup.noticeBlock = false → s.link.notices.length < 64 →
              t.sup.noticeBlock = true
              ∧ ∃ rest, t.link.notices = s.link.notices ++
                ⟨s.now, .estop true true (allSlots.countP fun k => (s.slot k).any fun a =>
                  a.state == .awaitOnline || a.state == .armed || a.state == .idleOpen)⟩ :: rest)
          ∧ (∀ p, (t.point p).ctl.stage = .closed ∧ t.slowOutput p = false ∧ t.fastOutput p = false
              ∧ unitKept (s.point p) (t.point p)
              ∧ (t.point p).monitor = closedMonitor (s.point p)
              ∧ ((s.point p).ctl.binding ≠ none → (s.point p).ctl.state ≠ .finished → (s.point p).ctl.state ≠ .proving →
                  (t.point p).ctl =
                    { (s.point p).ctl with
                      state := .finished, stage := .closed, finishReason := some .estop, suspendCause := none
                      softReason := none, stopPending := none, timer := some ⟨.drain, s.site.drainTime * 10000⟩
                      delivery := (s.point p).ctl.delivery.map fun d => { d with endReason := some .estop } })
              ∧ (∀ r, (s.point p).ctl.state = .proving → (s.point p).ctl.proving = some r → r.phase ≠ .drain →
                  r.phase ≠ .done →
                  (t.point p).ctl =
                    { (s.point p).ctl with
                      stage := .closed, timer := some ⟨.drain, s.site.drainTime * 10000⟩
                      proving := some { r with phase := .drain, endCause := r.endCause.or (some .estop) } })
              ∧ ((s.point p).ctl.binding = none ∧ (s.point p).ctl.state ≠ .proving
                  ∨ (s.point p).ctl.state = .finished →
                  (t.point p).ctl = { (s.point p).ctl with stage := .closed }))
          ∧ (∀ k, (t.pump k).ready = (s.pump k).ready ∧ (t.pump k).cause = (s.pump k).cause ∧ t.runOutput k = false
              ∧ ((s.pump k).state = .starting ∨ (s.pump k).state = .running ∨ (s.pump k).state = .runOn →
                  (t.pump k).state = .stopped ∧ (t.pump k).timer = none)
              ∧ ((s.pump k).state = .stopped ∨ (s.pump k).state = .failed →
                  (t.pump k).state = (s.pump k).state ∧ (t.pump k).timer = (s.pump k).timer))
          ∧ (∀ k, s.slot k = none → t.slot k = none)
          ∧ ∀ k a, s.slot k = some a →
            (a.state = .awaitOnline ∨ a.state = .armed → t.slot k = none)
            ∧ (a.state = .delivering →
                t.slot k = some (if a.flags.closing then a
                  else { a with flags := { a.flags with closing := true }, endReason := some .estop }))
            ∧ (a.state = .idleOpen → a.serial ∈ t.auth.sales ∧ ∃ b, t.slot k = some b ∧ b.state = .settled
                ∧ b.serial = a.serial ∧ b.endReason = some (a.endReason.getD .estop))
            ∧ (a.state = .settled → t.slot k = some a))

/-- R169, R170, R171, R178: the other level inputs. A deassertion of ESTOP qualifies under RISE_FALL alone and leaves
the latch; the edges of CAL_EN move the input the guarded requests read and present CAL_ENABLED, with a notice where
the mask is enabled and no notice stands; SITE RESUME clears the notice block, and the latch with the input
deasserted. An edge that changes no level changes nothing (the model's choice, log 5). -/
def Obligations.LevelInputsPresent : Prop :=
  ∀ s : State,
    let e := s.sup.siteAlarms.estop
    let c := s.sup.siteAlarms.calEnabled
    let off : State := { s with sup := { s.sup with estopInput := false } }
    let flagged (b : Bool) : State :=
      { s with
        cal := { s.cal with enabled := b }
        sup :=
          { s.sup with
            siteAlarms :=
              { s.sup.siteAlarms with calEnabled := { c with latched := true, notified := c.notified || c.mask } } } }
    let presented (b : Bool) : State :=
      if c.mask = true ∧ c.notified = false then pushNotice (.siteAlarm .calEnabled b) (flagged b) else flagged b
    (s.sup.estopInput = false → exec .estopDeassertion s = .next s)
    ∧ (s.sup.estopInput = true → e.edge = .rise → exec .estopDeassertion s = .next off)
    ∧ (s.sup.estopInput = true → e.edge = .riseFall →
        ∃ t, exec .estopDeassertion s = .next t ∧ linkKept s t ∧ t.sup.estopLatch = s.sup.estopLatch
          ∧ t = { s with
                  link := t.link
                  sup :=
                    { s.sup with
                      estopInput := false, noticeBlock := s.sup.noticeBlock || e.mask
                      siteAlarms := { s.sup.siteAlarms with estop := { e with latched := true } } } }
          ∧ (e.mask = false ∨ s.sup.noticeBlock = true → t.link = s.link)
          ∧ (e.mask = true → s.sup.noticeBlock = false → s.link.notices.length < 64 →
              t.link.notices = s.link.notices ++ [⟨s.now, .estop false s.sup.estopLatch 0⟩]))
    ∧ (s.cal.enabled = true → exec .calEnAssertion s = .next s)
    ∧ (s.cal.enabled = false → exec .calEnDeassertion s = .next s)
    ∧ (s.cal.enabled = false → exec .calEnAssertion s = .next (presented true))
    ∧ (s.cal.enabled = true → c.edge = .riseFall → exec .calEnDeassertion s = .next (presented false))
    ∧ (s.cal.enabled = true → c.edge = .rise →
        exec .calEnDeassertion s = .next { s with cal := { s.cal with enabled := false } })
    ∧ (s.sup.estopInput = true →
        exec (.siteResume .station (.fields ())) s =
          .next (reply 0x49 .inputActive (.estop s.sup.estopLatch true)
            { s with sup := { s.sup with noticeBlock := false } }))
    ∧ (s.sup.estopInput = false →
        exec (.siteResume .station (.fields ())) s =
          .next (reply 0x49 .ok (.estop false false)
            { s with sup := { s.sup with estopLatch := false, noticeBlock := false } }))

/-- R172, R173, R134: ALARM MASK and ALARM CLEAR over a kind code from 1 to 13. Subject 0 names all 18 points for a
per-point kind and is the one subject of a site kind. MASK stores the mask, and the edge select of a level kind; CLEAR
clears the flag and the notified bit, answers the number of flags it cleared, and for UNAUTH_FLOW zeroes the
unauthorised counts. The reply to MASK carries the kind and the subject beside the values stored (the model's choice,
log 59). An undefined code, or RISE_FALL for an event kind, is MALFORMED; another subject is OUT_OF_RANGE. -/
def Obligations.AlarmsMaskedAndCleared : Prop :=
  ∀ (kind subject : Byte) (mask : Bool) (edge : EdgeSelect) (s : State),
    let f : AlarmMaskF := ⟨kind, subject, if mask then 1 else 0, if edge = .rise then 1 else 2⟩
    let named (p : Point) : Prop := subject = 0 ∨ subject.toNat = p.val + 1
    (readAlarmKind kind = none →
      exec (.alarmMask .station (.fields f)) s = .next (reply 0x4A .malformed .none s)
        ∧ exec (.alarmClear .station (.fields ⟨kind, subject⟩)) s = .next (reply 0x4B .malformed .none s))
    ∧ (∀ b c : Byte, 1 < b.toNat ∨ (c ≠ 1 ∧ c ≠ 2) →
        exec (.alarmMask .station (.fields ⟨kind, subject, b, c⟩)) s = .next (reply 0x4A .malformed .none s))
    ∧ (∀ x, readAlarmKind kind = some (.point x) →
        (edge = .riseFall → x ≠ .channelLoss →
          exec (.alarmMask .station (.fields f)) s = .next (reply 0x4A .malformed .none s))
        ∧ (18 < subject.toNat →
            (edge = .riseFall → x = .channelLoss) →
            exec (.alarmMask .station (.fields f)) s = .next (reply 0x4A .outOfRange .none s)
            ∧ exec (.alarmClear .station (.fields ⟨kind, subject⟩)) s = .next (reply 0x4B .outOfRange .none s))
        ∧ (subject.toNat ≤ 18 → (edge = .riseFall → x = .channelLoss) →
            ∃ t, exec (.alarmMask .station (.fields f)) s =
                .next (reply 0x4A .ok (.alarmMask (.point x) subject.toNat mask edge) t)
              ∧ t = { s with sup := { s.sup with pointAlarms := t.sup.pointAlarms } }
              ∧ ∀ p : Point, (¬ named p → t.sup.pointAlarms[p.val] = s.sup.pointAlarms[p.val])
                ∧ (named p → ∀ y, (t.sup.pointAlarms[p.val]).get y =
                    let c := (s.sup.pointAlarms[p.val]).get y
                    if y = x then { c with mask := mask, edge := if x = .channelLoss then edge else c.edge } else c))
        ∧ (subject.toNat ≤ 18 →
            ∃ t n, exec (.alarmClear .station (.fields ⟨kind, subject⟩)) s = .next (reply 0x4B .ok (.flagsCleared n) t)
              ∧ t = { s with sup := { s.sup with pointAlarms := t.sup.pointAlarms }, points := t.points }
              ∧ (subject = 0 → n = allPoints.countP fun p => ((s.sup.pointAlarms[p.val]).get x).latched)
              ∧ ∀ p : Point,
                (¬ named p → t.sup.pointAlarms[p.val] = s.sup.pointAlarms[p.val] ∧ t.point p = s.point p)
                ∧ (named p →
                    (subject ≠ 0 → n = if ((s.sup.pointAlarms[p.val]).get x).latched then 1 else 0)
                    ∧ (∀ y, (t.sup.pointAlarms[p.val]).get y =
                        let c := (s.sup.pointAlarms[p.val]).get y
                        if y = x then { c with latched := false, notified := false } else c)
                    ∧ t.point p =
                      if x = .unauthFlow then
                        { s.point p with meter := { (s.point p).meter with unauthorised := 0 } }
                      else s.point p)))
    ∧ (∀ x, readAlarmKind kind = some (.site x) →
        (edge = .riseFall → x ≠ .estop → x ≠ .calEnabled →
          exec (.alarmMask .station (.fields f)) s = .next (reply 0x4A .malformed .none s))
        ∧ (subject ≠ 0 → (edge = .riseFall → x = .estop ∨ x = .calEnabled) →
            exec (.alarmMask .station (.fields f)) s = .next (reply 0x4A .outOfRange .none s)
            ∧ exec (.alarmClear .station (.fields ⟨kind, subject⟩)) s = .next (reply 0x4B .outOfRange .none s))
        ∧ (subject = 0 → (edge = .riseFall → x = .estop ∨ x = .calEnabled) →
            ∃ t, exec (.alarmMask .station (.fields f)) s =
                .next (reply 0x4A .ok (.alarmMask (.site x) 0 mask edge) t)
              ∧ t = { s with sup := { s.sup with siteAlarms := t.sup.siteAlarms } }
              ∧ ∀ y, t.sup.siteAlarms.get y =
                let c := s.sup.siteAlarms.get y
                if y = x then
                  { c with mask := mask, edge := if x = .estop ∨ x = .calEnabled then edge else c.edge }
                else c)
        ∧ (subject = 0 →
            ∃ t, exec (.alarmClear .station (.fields ⟨kind, subject⟩)) s =
                .next (reply 0x4B .ok (.flagsCleared (if (s.sup.siteAlarms.get x).latched then 1 else 0)) t)
              ∧ t = { s with sup := { s.sup with siteAlarms := t.sup.siteAlarms } }
              ∧ ∀ y, t.sup.siteAlarms.get y =
                let c := s.sup.siteAlarms.get y
                if y = x then { c with latched := false, notified := false } else c))

/-- R155, R176, R177: POINT STATS answers a monitor's figures, and with its option clears the peak and the minimum;
COUNTERS READ answers a point's counters and snapshot, and with its option takes a snapshot first; the report interval
takes a snapshot, queues a COUNTER_REPORT for each point with a count in ascending order, and starts again. An
interval timer that does not run does nothing (the model's choice, log 4), and the settings and alarm cells stand
whole in the replies (the model's choice, log 62). -/
def Obligations.StatsAndCounters : Prop :=
  ∀ (f : PointOptionF) (p : Point) (s : State),
    let m := (s.point p).monitor
    let snapped : State :=
      { s with
        sup :=
          { s.sup with
            snapshots := s.sup.counters, counters := Vector.replicate 18 ⟨0, 0, 0, 0, 0, 0⟩
            snapshotTime := some s.now } }
    let stats : StatsReport :=
      { active := m.active, size := if m.active then some m.size else none, latest := m.latest, peak := m.peak
        minimum := m.minimum, settle := m.settle, reference := m.reference, config := (s.point p).config }
    let report (t : State) : CountersReport :=
      { mode := s.site.reportMode, snapshotTime := t.sup.snapshotTime, snapshot := t.sup.snapshots[p.val]
        counters := t.counters p, alarms := s.sup.pointAlarms[p.val] }
    (1 < f.option.toNat →
      exec (.pointStats .station (.fields f)) s = .next (reply 0x21 .malformed .none s)
        ∧ exec (.countersRead .station (.fields f)) s = .next (reply 0x4C .malformed .none s))
    ∧ (f.option.toNat ≤ 1 → f.point = 0 ∨ 18 < f.point.toNat →
        exec (.pointStats .station (.fields f)) s = .next (reply 0x21 .outOfRange .none s)
          ∧ exec (.countersRead .station (.fields f)) s = .next (reply 0x4C .outOfRange .none s))
    ∧ (f.point.toNat = p.val + 1 →
        (f.option = 0 →
          exec (.pointStats .station (.fields f)) s = .next (reply 0x21 .ok (.stats stats) s)
            ∧ exec (.countersRead .station (.fields f)) s = .next (reply 0x4C .ok (.counters (report s)) s))
        ∧ (f.option = 1 →
            exec (.pointStats .station (.fields f)) s =
                .next (reply 0x21 .ok (.stats stats)
                  { s with
                    points :=
                      s.points.set p.val { s.point p with monitor := { m with peak := 0, minimum := 65535 } } })
              ∧ exec (.countersRead .station (.fields f)) s =
                .next (reply 0x4C .ok (.counters (report snapped)) snapped)))
    ∧ (s.sup.reportTimer = none → exec .reportIntervalExpiry s = .next s)
    ∧ (s.sup.reportTimer ≠ none →
        ∃ t, exec .reportIntervalExpiry s = .next t ∧ linkKept s t
          ∧ t = { snapped with
                  link := t.link
                  sup := { snapped.sup with reportTimer := some (s.site.reportInterval * 10000) } }
          ∧ (s.link.notices.length ≤ 46 →
              t.link.notices = s.link.notices ++
                (allPoints.filter fun q => decide (s.counters q ≠ ⟨0, 0, 0, 0, 0, 0⟩)).map fun q =>
                  ⟨s.now, .counterReport q (s.counters q) (some s.now)⟩))

/-! ### Settings -/

/-- R82, R84, R108, R121, R142, R154, R177: the settings. LANE CONFIG stores a lane's settings on a lane with no live
record and no point in PROVING; a point whose fitting changes takes the restart values of its metering unit (the
model's choice, log 23), and one that becomes unfitted in CALLING or FINISHED enters IDLE. PRODUCT CONFIG refuses a
price outside 1 to 99,999 and clamps its bands; SITE CONFIG clamps its settings and follows the report mode; POINT
CONFIG with the stored calibration stores its settings clamped. A clamp answers OK_CLAMPED. A code that names nothing
is MALFORMED, at an S product DEF too (DEDUCED, log 22); a lane outside 1 to 6 is OUT_OF_RANGE. That an OK reply to
SITE CONFIG or POINT CONFIG carries the data of OK_CLAMPED is the model's choice (log 58), as is the lane or the
product beside what was stored (log 59). -/
def Obligations.SettingsStored : Prop :=
  (∀ (f : LaneConfigF) (s : State),
    let coded := f.enabled.toNat ≤ 1 ∧ f.sFitted.toNat ≤ 1 ∧ (f.sProduct = 1 ∨ f.sProduct = 2) ∧ f.dFitted.toNat ≤ 1
    (¬ coded → exec (.laneConfig .station (.fields f)) s = .next (reply 0x40 .malformed .none s))
    ∧ (coded → f.lane = 0 ∨ 6 < f.lane.toNat →
        exec (.laneConfig .station (.fields f)) s = .next (reply 0x40 .outOfRange .none s)))
  ∧ (∀ (f : ProductConfigF) (s : State), f.product = 0 ∨ 3 < f.product.toNat →
      exec (.productConfig .station (.fields f)) s = .next (reply 0x42 .malformed .none s))
  ∧ (∀ (f : SiteConfigF) (s : State), 1 < f.pumpA.readyCheck.toNat ∨ 1 < f.pumpB.readyCheck.toNat
        ∨ 1 < f.pumpC.readyCheck.toNat ∨ (f.reportMode ≠ 1 ∧ f.reportMode ≠ 2) →
      exec (.siteConfig .station (.fields f)) s = .next (reply 0x43 .malformed .none s))
  ∧ (∀ (f : PointConfigF) (s : State), (f.noise ≠ 1 ∧ f.noise ≠ 2) ∨ 1 < f.surgeHold.toNat ∨ 3 < f.window.toNat →
      exec (.pointConfig .station (.fields f)) s = .next (reply 0x41 .malformed .none s))
  ∧ (∀ (f : LaneConfigF) (l : Lane) (r : Product) (s : State),
    f.lane.toNat = l.val + 1 → f.enabled.toNat ≤ 1 → f.sFitted.toNat ≤ 1 → f.dFitted.toNat ≤ 1 →
    (f.sProduct = 1 ∧ r = .dsl) ∨ (f.sProduct = 2 ∧ r = .rfr) →
    let c : LaneConfig := ⟨f.enabled == 1, f.tier.toNat, f.sFitted == 1, r, f.dFitted == 1⟩
    (3 < f.tier.toNat → exec (.laneConfig .station (.fields f)) s = .next (reply 0x40 .outOfRange .none s))
    ∧ (f.tier.toNat ≤ 3 → (∃ k a, s.slot k = some a ∧ a.isLive = true ∧ a.lane = l) →
        exec (.laneConfig .station (.fields f)) s = .next (reply 0x40 .laneBusy .none s))
    ∧ (f.tier.toNat ≤ 3 → (∀ k a, s.slot k = some a → a.isLive = true → a.lane ≠ l) →
        ((∃ p ∈ pointsOf l, (s.point p).ctl.state = .proving) →
          exec (.laneConfig .station (.fields f)) s = .next (reply 0x40 .wrongState .none s))
        ∧ ((∀ p ∈ pointsOf l, (s.point p).ctl.state ≠ .proving) →
            ∃ t, exec (.laneConfig .station (.fields f)) s = .next (reply 0x40 .ok (.lane l c) t)
              ∧ t = { s with lanes := s.lanes.set l.val c, points := t.points }
              ∧ (∀ q, (q ≠ pointS l ∨ c.sFitted = (s.lane l).sFitted) →
                  (q ≠ pointD l ∨ c.dFitted = (s.lane l).dFitted) → t.point q = s.point q)
              ∧ ∀ q, (q = pointS l ∨ q = pointD l → t.fitted q ≠ s.fitted q →
                  t.point q =
                    { s.point q with
                      meter := resetMeter (s.point q).inputPair
                      ctl :=
                        if t.fitted q = false ∧ ((s.point q).ctl.state = .calling ∨ (s.point q).ctl.state = .finished) then
                          { (s.point q).ctl with state := .idle, finishReason := none, timer := none }
                        else (s.point q).ctl }))))
  ∧ (∀ (f : ProductConfigF) (s : State) (r : Product), readProduct f.product = some r →
      (f.price = 0 ∨ 99999 < f.price.toNat →
        exec (.productConfig .station (.fields f)) s = .next (reply 0x42 .outOfRange (.field 2) s))
      ∧ (1 ≤ f.price.toNat → f.price.toNat ≤ 99999 →
          ∃ st t e, exec (.productConfig .station (.fields f)) s = .next (reply 0x42 st (.product r e) t)
            ∧ e = ⟨f.price.toNat, max 100 (min 2000 f.startBand.toNat), max 200 (min 10000 f.slowDown.toNat),
                min 1000 f.closeAhead.toNat, max 50 (min 1000 f.softStop.toNat), min 5000 f.tolerance.toNat⟩
            ∧ st = (if e = ⟨f.price.toNat, f.startBand.toNat, f.slowDown.toNat, f.closeAhead.toNat, f.softStop.toNat,
                f.tolerance.toNat⟩ then .ok else .okClamped)
            ∧ t = { s with products := t.products } ∧ t.product r = e ∧ ∀ q, q ≠ r → t.product q = s.product q))
  ∧ (∀ (f : SiteConfigF) (s : State), f.pumpA.readyCheck.toNat ≤ 1 → f.pumpB.readyCheck.toNat ≤ 1 →
      f.pumpC.readyCheck.toNat ≤ 1 → f.reportMode = 1 ∨ f.reportMode = 2 →
      let asSent (x : PumpSettingsF) : PumpSettings := ⟨x.readyCheck == 1, x.spinUp.toNat, x.readyWait.toNat, x.runOn.toNat⟩
      let clamped (x : PumpSettingsF) : PumpSettings :=
        ⟨x.readyCheck == 1, max 5 (min 100 x.spinUp.toNat), max 2 (min 30 x.readyWait.toNat), min 120 x.runOn.toNat⟩
      let mode : ReportMode := if f.reportMode = 1 then .manual else .auto
      let sent : SiteConfig :=
        ⟨f.armingTime.toNat, f.idleCloseTime.toNat, f.deliveryMax.toNat, f.softStopTime.toNat, f.drainTime.toNat,
          f.suspensionLimit.toNat, asSent f.pumpA, asSent f.pumpB, asSent f.pumpC, mode, f.reportInterval.toNat⟩
      let stored : SiteConfig :=
        ⟨max 10 (min 900 f.armingTime.toNat), max 10 (min 600 f.idleCloseTime.toNat),
          max 1000 (min 2000000 f.deliveryMax.toNat), max 1 (min 10 f.softStopTime.toNat),
          max 1 (min 10 f.drainTime.toNat), max 10 (min 600 f.suspensionLimit.toNat), clamped f.pumpA, clamped f.pumpB,
          clamped f.pumpC, mode, max 60 (min 3600 f.reportInterval.toNat)⟩
      exec (.siteConfig .station (.fields f)) s =
        .next (reply 0x43 (if stored = sent then .ok else .okClamped) (.site stored)
          { s with
            site := stored
            sup :=
              { s.sup with
                reportTimer :=
                  if mode = .manual then none
                  else if s.site.reportMode = .manual then some (stored.reportInterval * 10000)
                  else s.sup.reportTimer } }))
  ∧ (∀ (f : PointConfigF) (p : Point) (s : State), f.point.toNat = p.val + 1 → f.noise = 1 ∨ f.noise = 2 →
      f.surgeHold.toNat ≤ 1 → f.window.toNat ≤ 3 → CalibrationHeld s →
      f.p.toNat = (s.point p).cal.p → f.c.toInt = (s.point p).cal.c →
      let stored : PointConfig :=
        ⟨if f.noise = 1 then .strict else .lenient, f.reverseAllowance.toNat, f.window.toNat,
          max 5 (min 120 f.noFlowTime.toNat), min 7 f.surgeCode.toNat, f.surgeHold == 1⟩
      exec (.pointConfig .station (.fields f)) s =
        .next (reply 0x41
          (if stored.noFlowTime = f.noFlowTime.toNat ∧ stored.surgeCode = f.surgeCode.toNat then .ok else .okClamped)
          (.pointConfig p stored (s.point p).cal)
          { s with points := s.points.set p.val { s.point p with config := stored } }))

/-! ### Proving and calibration -/

/-- R131, R181 to R184: proving runs. PROVE START in IDLE or CALLING, with CAL_EN asserted, the ESTOP latch clear and
no live record on the lane, loads a run in LIFT_WAIT with the nozzle hung, and with it lifted one that goes on to its
pump as a lift in LIFT_WAIT does (`runWaits`): into PUMP_WAIT, starting a STOPPED pump, into SLOW on a RUNNING or
RUN_ON one, or to its end with PUMP_FAIL. A forward count raises N in every phase before DONE; the start band takes SLOW
to FAST, the soft-stop volume TAIL to DRAIN. A reverse count lowers N there, and the first fall from the peak beyond the
allowance sets the fault latch, raises REVERSE_FLOW and its counter, and takes the run to DRAIN with REVERSE
(`reversesRun`); in DONE it is counted nowhere. PROVE STOP ends a run before its valve opens into DRAIN and one with its
valve open into TAIL, leaves TAIL and DRAIN, and abandons DONE. The tail timer ends TAIL in DRAIN; the end of the
drain, or a hang-up from PUMP_WAIT to DRAIN, enters DONE: N_meas is N, the totaliser rises by the run volume. A lift or a
hang-up in DONE loads the nozzle field alone; so do, where R183 and R184 say that they do not arise, a lift in any other
phase after LIFT_WAIT and a hang-up in LIFT_WAIT (the model's choice, log 51). A reply carries the run (log 43); a point
number outside 1 to 18 is refused OUT_OF_RANGE; a timer that does not run does nothing (the model's choice, log 4).
Leaving DONE, a lifted point asks to bind; if it reserves, the DSL line is evaluated before it joins its pump (DEDUCED,
log 67). -/
def Obligations.ProvingRuns : Prop :=
  (∀ (n : Byte) (s : State), n = 0 ∨ 18 < n.toNat →
    exec (.proveStart .station (.fields n)) s = .next (reply 0x50 .outOfRange .none s)
      ∧ exec (.proveStop .station (.fields n)) s = .next (reply 0x51 .outOfRange .none s))
  ∧ ∀ (n : Byte) (p : Point) (left : Nat) (s : State), n.toNat = p.val + 1 →
    let u := s.point p
    let ready := s.cal.enabled = true ∧ s.sup.estopLatch = false ∧ s.fitted p = true
      ∧ (u.ctl.state = .idle ∨ u.ctl.state = .calling)
    let withCtl (c : PointRecord) : State := { s with points := s.points.set p.val { u with ctl := c } }
    let measured (r : ProvingRun) (e : Option ProveEnd) (t : State) : Prop :=
      equipmentOnly s t ∧ othersKept p s t ∧ leavesDemand p s t ∧ (t.point p).monitor = closedMonitor u
        ∧ unitKept { u with
            totaliser := max u.totaliser (min (u.totaliser + volumeOf u.cal r.net) 18446744073709551615) } (t.point p)
        ∧ (t.point p).ctl =
          { u.ctl with
            stage := .closed, timer := none, nozzle := (t.point p).ctl.nozzle
            proving := some
              { r with phase := .done, endCause := r.endCause.or e, measured := some r.net, totalised := true } }
    let leaves (latch : Bool) (st : PointState) : PointRecord :=
      { u.ctl with
        state := st, proving := none, timer := none
        finishReason := if latch then none else u.ctl.finishReason }
    (s.cal.enabled = false → exec (.proveStart .station (.fields n)) s = .next (reply 0x50 .calLocked .none s))
    ∧ (s.cal.enabled = true → s.sup.estopLatch = true →
        exec (.proveStart .station (.fields n)) s = .next (reply 0x50 .siteStopped .none s))
    ∧ (s.cal.enabled = true → s.sup.estopLatch = false → ¬ ready →
        exec (.proveStart .station (.fields n)) s = .next (reply 0x50 .wrongState .none s))
    ∧ (∀ j a, ready → s.liveSlot (laneOf p) = some j → s.slot j = some a →
        exec (.proveStart .station (.fields n)) s = .next (reply 0x50 .laneBusy (.busySerial a.serial) s))
    ∧ (ready → s.liveSlot (laneOf p) = none →
        ∃ r : ProvingRun, r.phase = .liftWait ∧ r.net = 0 ∧ r.peak = 0 ∧ r.totalised = false ∧ r.endCause = none
          ∧ r.measured = none ∧
          let begun : State :=
            { s with
              points :=
                s.points.set p.val
                  { u with
                    meter := { u.meter with reverseFound := false }
                    ctl :=
                      { u.ctl with state := .proving, finishReason := none, timer := none, proving := some r } } }
          (u.ctl.nozzle = .hung →
            exec (.proveStart .station (.fields n)) s = .next (reply 0x50 .ok (.run (some ⟨r, 0⟩)) begun))
          ∧ (u.ctl.nozzle = .lifted → u.ctl.stage = .closed →
              ∃ t, exec (.proveStart .station (.fields n)) s =
                  .next (reply 0x50 .ok (.run ((t.point p).ctl.proving.map fun x => ⟨x, 0⟩)) t)
                ∧ runWaits p r begun t))
    ∧ (u.ctl.state ≠ .proving → exec (.proveStop .station (.fields n)) s = .next (reply 0x51 .wrongState .none s))
    ∧ (∀ r, u.ctl.state = .proving → u.ctl.proving = some r →
        (r.phase = .liftWait → s.fitted p = true → u.ctl.nozzle = .hung → u.ctl.stage = .closed →
          ∃ t, exec (.nozzleLift p) s = .next t ∧ runWaits p r (withCtl { u.ctl with nozzle := .lifted }) t)
        ∧ (∀ after order, s.fitted p = true → u.ctl.binding = none → countsForward u.meter after → noiseFree u →
            u.monitor.count + 1 < u.monitor.size →
            let net := min (r.net + 1) 999999999
            let v := volumeOf u.cal net
            let e := s.product (s.productOf p)
            ∃ t, exec (.meterTransition p after order) s = .next t ∧
              let counted : ProvingRun := { r with net := net, peak := max r.peak net }
              (r.phase = .slow → r.startRef + e.startBand ≤ v →
                (t.point p).ctl = { u.ctl with stage := .fast, proving := some { counted with phase := .fast } }
                  ∧ (t.point p).monitor.settle = 0)
              ∧ (r.phase = .tail → r.stopRef + e.softStop ≤ v →
                  leavesDemand p s t
                    ∧ (t.point p).ctl =
                      { u.ctl with
                        stage := .closed, timer := some ⟨.drain, s.site.drainTime * 10000⟩
                        proving := some
                          { counted with phase := .drain, endCause := r.endCause.or (some .hostStop) } })
              ∧ (r.phase = .done → (t.point p).ctl = u.ctl)
              ∧ (r.phase ≠ .done → (r.phase = .slow → v < r.startRef + e.startBand) →
                  (r.phase = .tail → v < r.stopRef + e.softStop) →
                  (t.point p).ctl = { u.ctl with proving := some counted }))
        ∧ (∀ after order, s.fitted p = true → u.ctl.binding = none → countsReverse u.meter after → noiseFree u →
            ∃ t, exec (.meterTransition p after order) s = .next t
              ∧ (r.phase ≠ .done → reversesRun p r s t)
              ∧ (r.phase = .done → t = { s with points := t.points } ∧ othersKept p s t
                  ∧ t.point p = { u with meter := (t.point p).meter, inputPair := after }
                  ∧ (t.point p).meter.reverseFound = u.meter.reverseFound))
        ∧ (r.phase ≠ .liftWait → s.fitted p = true → u.ctl.nozzle = .hung →
            exec (.nozzleLift p) s = .next (withCtl { u.ctl with nozzle := .lifted }))
        ∧ (r.phase = .liftWait ∨ r.phase = .done → s.fitted p = true → u.ctl.nozzle = .lifted → u.ctl.binding = none →
            exec (.hangUp p) s = .next (withCtl { u.ctl with nozzle := .hung }))
        ∧ (r.phase = .liftWait ∨ r.phase = .pumpWait →
            ∃ t, exec (.proveStop .station (.fields n)) s =
                .next (reply 0x51 .ok
                  (.run (some ⟨{ r with phase := .drain, endCause := r.endCause.or (some .hostStop) },
                    volumeOf u.cal r.net⟩)) t)
              ∧ drainsRun p r .hostStop s t)
        ∧ (r.phase = .slow ∨ r.phase = .fast → u.ctl.stage ≠ .closed →
            exec (.proveStop .station (.fields n)) s =
              let x : ProvingRun :=
                { r with phase := .tail, endCause := r.endCause.or (some .hostStop), stopRef := volumeOf u.cal r.net }
              .next (reply 0x51 .ok (.run (some ⟨x, volumeOf u.cal r.net⟩))
                (withCtl
                  { u.ctl with
                    stage := .slow, timer := some ⟨.softStop, s.site.softStopTime * 10000⟩, proving := some x })))
        ∧ (r.phase = .tail ∨ r.phase = .drain →
            exec (.proveStop .station (.fields n)) s =
              .next (reply 0x51 .ok (.run (some ⟨r, volumeOf u.cal r.net⟩)) s))
        ∧ (r.phase = .done →
            (u.ctl.faultLatch = true →
              exec (.proveStop .station (.fields n)) s =
                .next (reply 0x51 .ok (.run none) (withCtl (leaves true .outOfService))))
            ∧ (u.ctl.faultLatch = false → u.ctl.nozzle = .hung →
                exec (.proveStop .station (.fields n)) s =
                  .next (reply 0x51 .ok (.run none) (withCtl (leaves false .idle))))
            ∧ (u.ctl.faultLatch = false → u.ctl.nozzle = .lifted → s.liveSlot (laneOf p) = none →
                exec (.proveStop .station (.fields n)) s =
                  .next (reply 0x51 .ok (.run none) (withCtl (leaves false .calling))))
            ∧ (∀ j, u.ctl.faultLatch = false → u.ctl.nozzle = .lifted → s.liveSlot (laneOf p) = some j →
                ∃ t, exec (.proveStop .station (.fields n)) s = .next (reply 0x51 .ok (.run none) t)
                  ∧ takesAnswer p j (withCtl (leaves false .calling)) t))
        ∧ (r.phase = .tail → u.ctl.timer = some ⟨.softStop, left⟩ →
            ∃ t, exec (.provingTailTimerExpiry p) s = .next t ∧ drainsRun p r .hostStop s t)
        ∧ (r.phase = .drain → u.ctl.timer = some ⟨.drain, left⟩ →
            ∃ t, exec (.provingDrainExpiry p) s = .next t ∧ measured r none t
              ∧ (t.point p).ctl.nozzle = u.ctl.nozzle)
        ∧ (r.phase ≠ .liftWait → r.phase ≠ .done → s.fitted p = true → u.ctl.nozzle = .lifted → u.ctl.binding = none →
            ∃ t, exec (.hangUp p) s = .next t ∧ measured r (some .hangUp) t ∧ (t.point p).ctl.nozzle = .hung))
    ∧ (u.ctl.timer = none →
        exec (.provingTailTimerExpiry p) s = .next s ∧ exec (.provingDrainExpiry p) s = .next s)

/-- R179, R180, R185: calibration changes. PROVE RESULT forms C' by its rounding from N_meas, P and the prover volume:
with CAL_EN deasserted it is refused CAL_LOCKED, at a run it cannot take WRONG_STATE, and a C' beyond 50,000
OUT_OF_RANGE with C'; a reply with C' carries the run as it stood (the model's choice, log 55). A change by PROVE
RESULT or POINT CONFIG loads the record, raises the counter, writes the log entry and queues CAL_CHANGED; after a
PROVE RESULT a hung point is IDLE, and a lifted one is in CALLING and asks to bind. POINT CONFIG stores its settings
clamped with the change. It is refused for a value out of range, without CAL_EN, and at a bound or
proving point; that it names P where C is out of range too is the model's choice (log 60). The data of its OK reply,
those of OK_CLAMPED with the point and the calibration record, are the model's choice (log 58). So is that CAL_CHANGED
stands before the notices of the binding that a lifted point makes (log 65). A binding that reserves has the DSL line
evaluated before its point joins its pump (DEDUCED, log 67). -/
def Obligations.CalibrationChanges : Prop :=
  let changed (p : Point) (source : CalSource) (new : Calibration) (s t : State) : Prop :=
    let n := min (s.cal.counter + 1) 65535
    t = { s with points := t.points, cal := t.cal, link := t.link } ∧ linkKept s t ∧ othersKept p s t
      ∧ t.cal.counter = n ∧ t.cal.enabled = s.cal.enabled
      ∧ t.cal.log = (⟨n, p, source, (s.point p).cal, new, s.now⟩ :: s.cal.log).take 32
      ∧ (s.link.notices.length < 64 →
          t.link.notices = s.link.notices ++ [⟨s.now, .calChanged p n source (s.point p).cal new⟩])
  (∀ (f : ProveResultF) (s : State), f.point = 0 ∨ 18 < f.point.toNat →
    exec (.proveResult .station (.fields f)) s = .next (reply 0x52 .outOfRange .none s))
  ∧ (∀ (f : PointConfigF) (s : State), f.noise = 1 ∨ f.noise = 2 → f.surgeHold.toNat ≤ 1 → f.window.toNat ≤ 3 →
      f.point = 0 ∨ 18 < f.point.toNat →
      exec (.pointConfig .station (.fields f)) s = .next (reply 0x41 .outOfRange .none s))
  ∧ (∀ (f : ProveResultF) (p : Point) (s : State), f.point.toNat = p.val + 1 →
    let u := s.point p
    (f.volume.toNat < 1000 ∨ 2000000 < f.volume.toNat →
      exec (.proveResult .station (.fields f)) s = .next (reply 0x52 .outOfRange .none s))
    ∧ (1000 ≤ f.volume.toNat → f.volume.toNat ≤ 2000000 →
        (s.cal.enabled = false → exec (.proveResult .station (.fields f)) s = .next (reply 0x52 .calLocked .none s))
        ∧ (s.cal.enabled = true →
            (u.ctl.state ≠ .proving ∨ u.ctl.faultLatch = true ∨
                (∀ r, u.ctl.proving = some r → r.phase = .done → ∀ m, r.measured = some m → m < 1) →
              exec (.proveResult .station (.fields f)) s = .next (reply 0x52 .wrongState .none s))
            ∧ ∀ r (m : Nat), u.ctl.state = .proving → u.ctl.faultLatch = false → u.ctl.proving = some r →
              r.phase = .done → r.measured = some (m : Int) → 1 ≤ m →
              let v := f.volume.toNat
              let c : Int := ((2 * m * 1000000000 + u.cal.p * v) / (2 * u.cal.p * v) : Nat) - 1000000
              (c < -50000 ∨ 50000 < c →
                exec (.proveResult .station (.fields f)) s =
                  .next (reply 0x52 .outOfRange (.correction c (some ⟨r, volumeOf u.cal r.net⟩)) s))
              ∧ (-50000 ≤ c → c ≤ 50000 → u.ctl.nozzle = .hung →
                  ∃ t, exec (.proveResult .station (.fields f)) s =
                      .next (reply 0x52 .ok
                        (.calibrated c ⟨u.cal.p, c⟩ t.cal.counter (some ⟨r, volumeOf u.cal r.net⟩)) t)
                    ∧ changed p .proveResult ⟨u.cal.p, c⟩ s t
                    ∧ t.point p =
                      { u with
                        cal := ⟨u.cal.p, c⟩
                        ctl := { u.ctl with state := .idle, proving := none, timer := none } })
              ∧ (-50000 ≤ c → c ≤ 50000 → u.ctl.nozzle = .lifted →
                  ∃ m t, exec (.proveResult .station (.fields f)) s =
                      .next (reply 0x52 .ok
                        (.calibrated c ⟨u.cal.p, c⟩ m.cal.counter (some ⟨r, volumeOf u.cal r.net⟩)) t)
                    ∧ changed p .proveResult ⟨u.cal.p, c⟩ s m
                    ∧ m.point p =
                      { u with
                        cal := ⟨u.cal.p, c⟩
                        ctl := { u.ctl with state := .calling, proving := none, timer := none } }
                    ∧ (s.liveSlot (laneOf p) = none → t = m)
                    ∧ ∀ j, s.liveSlot (laneOf p) = some j → takesAnswer p j m t))))
  ∧ (∀ (f : PointConfigF) (p : Point) (s : State), f.point.toNat = p.val + 1 → f.noise = 1 ∨ f.noise = 2 →
      f.surgeHold.toNat ≤ 1 → f.window.toNat ≤ 3 →
      let u := s.point p
      let new : Calibration := ⟨f.p.toNat, f.c.toInt⟩
      let inRange := 10 ≤ f.p.toNat ∧ f.p.toNat ≤ 5000 ∧ -50000 ≤ f.c.toInt ∧ f.c.toInt ≤ 50000
      (f.p.toNat < 10 ∨ 5000 < f.p.toNat →
        exec (.pointConfig .station (.fields f)) s = .next (reply 0x41 .outOfRange (.field 8) s))
      ∧ (10 ≤ f.p.toNat → f.p.toNat ≤ 5000 → f.c.toInt < -50000 ∨ 50000 < f.c.toInt →
          exec (.pointConfig .station (.fields f)) s = .next (reply 0x41 .outOfRange (.field 9) s))
      ∧ (inRange → new ≠ u.cal → s.cal.enabled = false →
          exec (.pointConfig .station (.fields f)) s = .next (reply 0x41 .calLocked .none s))
      ∧ (inRange → new ≠ u.cal → s.cal.enabled = true → u.ctl.binding ≠ none ∨ u.ctl.state = .proving →
          exec (.pointConfig .station (.fields f)) s = .next (reply 0x41 .wrongState .none s))
      ∧ (inRange → new ≠ u.cal → s.cal.enabled = true → u.ctl.binding = none → u.ctl.state ≠ .proving →
          let stored : PointConfig :=
            ⟨if f.noise = 1 then .strict else .lenient, f.reverseAllowance.toNat, f.window.toNat,
              max 5 (min 120 f.noFlowTime.toNat), min 7 f.surgeCode.toNat, f.surgeHold == 1⟩
          ∃ t, exec (.pointConfig .station (.fields f)) s =
              .next (reply 0x41
                (if stored.noFlowTime = f.noFlowTime.toNat ∧ stored.surgeCode = f.surgeCode.toNat then .ok else .okClamped)
                (.pointConfig p stored new) t)
            ∧ changed p .pointConfig new s t ∧ t.point p = { u with cal := new, config := stored }))

/-! ### Restarts -/

/-- R64, R111, R120, R142, R161, R162, R165, R166, R167, R175, R186, R187, R190: what a cold start and a warm restart
leave. Every point is IDLE, or OUT_OF_SERVICE with its latch, closed, unbound and without timers, its nozzle and pair as
read; every pump is STOPPED. Each bound delivery not yet final is merged with its retained counts, in ascending point
number: it becomes final, the totaliser rises by its V, and its record takes its entry and its volume in its line; a
proving run not yet totalised is totalised. No live record is left: those in AWAIT_ONLINE and ARMED are freed, those in
DELIVERING and IDLE_OPEN settled with the restart's reason, by time created; a sale with no point bound to it stays as
it was. Behind RESTARTED, the first notice, stands a SALE_READY for each sale from head to tail. Counters are 0 and the
link is in HUNT with its straps read; the settings, tables, calibration store and fault latches are kept. A cold start
carries the seconds without supply (the model's choice, log 8); the ticks gone by in the second stand (log 12); and the
restart's end reason replaces one that CLOSING had loaded (log 31). -/
def Obligations.RestartClears : Prop :=
  ∀ (elapsed : Nat) (cause : WarmCause) (i : Inputs) (s : State),
    let restarted (c : RestartCause) (e : RecordEnd) (reason : EndReason) (rtc : Time) (t : State) : Prop :=
      t.clock = { s.clock with rtc := rtc } ∧ t.site = s.site ∧ t.products = s.products ∧ t.lanes = s.lanes
        ∧ t.screening = { s.screening with history := t.screening.history } ∧ t.pending = s.pending
        ∧ t.cal = { s.cal with enabled := i.calEn }
        ∧ (∀ p : Point,
            (t.point p).ctl =
              { (t.point p).ctl with
                state := if (s.point p).ctl.faultLatch then .outOfService else .idle
                stage := .closed, nozzle := if i.lifted[p.val] then .lifted else .hung, binding := none
                suspendCause := none, finishReason := none, softReason := none, stopPending := none, timer := none
                faultLatch := (s.point p).ctl.faultLatch, proving := none }
            ∧ (t.point p).meter = resetMeter i.pairs[p.val] ∧ (t.point p).inputPair = i.pairs[p.val]
            ∧ (t.point p).monitor.active = false ∧ (t.point p).monitor.peak = 0
            ∧ (t.point p).monitor.minimum = 65535
            ∧ (t.point p).config = (s.point p).config ∧ (t.point p).cal = (s.point p).cal
            ∧ restartsPoint reason p s t ∧ t.counters p = ⟨0, 0, 0, 0, 0, 0⟩)
        ∧ t.pumps = ⟨⟨.stopped, i.ready[0], [], none, none⟩, ⟨.stopped, i.ready[1], [], none, none⟩,
            ⟨.stopped, i.ready[2], [], none, none⟩⟩
        ∧ t.sup.estopInput = i.estop ∧ t.sup.estopLatch = i.estop ∧ t.sup.snapshotTime = none
        ∧ t.sup.reportTimer = (if s.site.reportMode = .auto then some (s.site.reportInterval * 10000) else none)
        ∧ t.link.receiver = .hunt ∧ t.link.station = i.address ∧ t.link.rate = i.rate ∧ t.link.acquirerUp = true
        ∧ t.link.reply = none ∧ t.link.lastTaken = none
        ∧ t.link.notices.head? = some ⟨rtc, .restarted c
            (allSlots.countP fun k => (s.slot k).any fun a => a.state == .delivering || a.state == .idleOpen)
            (allSlots.countP fun k => (s.slot k).any fun a => a.state == .awaitOnline || a.state == .armed)⟩
        ∧ t.auth.serial = s.auth.serial
        ∧ restartsQueues s t
        ∧ (∀ k, s.slot k = none → t.slot k = none)
        ∧ ∀ k a, s.slot k = some a →
          (a.state = .awaitOnline ∨ a.state = .armed → t.slot k = none)
          ∧ (a.state = .delivering ∨ a.state = .idleOpen →
              ∃ b, t.slot k = some b ∧ restartsRecord (allPoints.filter (opensAt k s)) a b e reason rtc s)
          ∧ (a.state = .settled → (∀ p b, (s.point p).ctl.binding = some b → b.serial ≠ a.serial) → t.slot k = some a)
    (∃ t, exec (.coldStart elapsed i) s = .next t
      ∧ restarted .cold .powerFail .powerFail (s.clock.rtc.plusSeconds elapsed) t)
    ∧ ∃ t, exec (.warmRestart cause i) s = .next t
      ∧ restarted (match cause with
          | .resetRequest => .resetRequest
          | .brownOut => .brownOut) .reset .reset s.clock.rtc t

/-! ### Money -/

/-- R70, R71: vol_for_money(R, U) is the largest volume whose amount does not exceed R, and 0 for R below 0; with the
amount's cap, for every R below it. -/
def Obligations.MoneyBuysVolume : Prop :=
  ∀ (money : Int) (price : Nat), 1 ≤ price →
    (money < 0 → volForMoney money price = 0)
    ∧ (0 ≤ money →
        (volForMoney money price : Int) = (money * 10000 + 4999) / price
        ∧ ∀ v : Nat,
          ((((v * price + 5000) / 10000 : Nat) : Int) ≤ money ↔ v ≤ volForMoney money price)
          ∧ (money < 9999999 → ((amountOf v price : Int) ≤ money ↔ v ≤ volForMoney money price))
          ∧ amountOf v price = min ((v * price + 5000) / 10000) 9999999)
end

