-- ==== Sys2Proof/Laws/State.lean ====
section
/-! SUPPORT. Laws/State.lean: for each primitive update of the state, the fields it leaves as they were (`_keeps`: one
equation for each field), the reads it leaves as they were (`_reads`), and what it puts in place (`point_…`,
`slot_…`, `pump_…`). Each is tagged simp and true by unfolding the one update, so that no later proof unfolds it. -/

namespace Sys2Proof.Machine

open Sys2Proof

/-! ### What each update leaves as it was -/

@[simp] theorem modPoint_keeps (p : Point) (f : PointUnit → PointUnit) (s : State) :
    (modPoint p f s).clock = s.clock ∧ (modPoint p f s).site = s.site
    ∧ (modPoint p f s).products = s.products ∧ (modPoint p f s).lanes = s.lanes
    ∧ (modPoint p f s).screening = s.screening ∧ (modPoint p f s).auth = s.auth
    ∧ (modPoint p f s).pumps = s.pumps ∧ (modPoint p f s).sup = s.sup ∧ (modPoint p f s).cal = s.cal
    ∧ (modPoint p f s).link = s.link ∧ (modPoint p f s).pending = s.pending := by
  and_intros <;> rfl

@[simp] theorem modPoint_reads (p : Point) (f : PointUnit → PointUnit) (s : State) :
    (modPoint p f s).now = s.now ∧ (∀ j, (modPoint p f s).slot j = s.slot j)
    ∧ (∀ n, (modPoint p f s).slotOfSerial n = s.slotOfSerial n)
    ∧ (∀ l, (modPoint p f s).liveSlot l = s.liveSlot l)
    ∧ (∀ c, (modPoint p f s).slotOfCard c = s.slotOfCard c) ∧ (∀ l, (modPoint p f s).lane l = s.lane l)
    ∧ (∀ q, (modPoint p f s).productOf q = s.productOf q)
    ∧ (∀ q, (modPoint p f s).pumpOfPoint q = s.pumpOfPoint q)
    ∧ (∀ q, (modPoint p f s).fitted q = s.fitted q) ∧ (∀ y, (modPoint p f s).pump y = s.pump y)
    ∧ (∀ y, (modPoint p f s).pumpSettings y = s.pumpSettings y)
    ∧ (∀ x, (modPoint p f s).product x = s.product x) := by
  and_intros <;> intros <;> rfl

@[simp] theorem modCtl_keeps (p : Point) (f : PointRecord → PointRecord) (s : State) :
    (modCtl p f s).clock = s.clock ∧ (modCtl p f s).site = s.site ∧ (modCtl p f s).products = s.products
    ∧ (modCtl p f s).lanes = s.lanes ∧ (modCtl p f s).screening = s.screening
    ∧ (modCtl p f s).auth = s.auth ∧ (modCtl p f s).pumps = s.pumps ∧ (modCtl p f s).sup = s.sup
    ∧ (modCtl p f s).cal = s.cal ∧ (modCtl p f s).link = s.link ∧ (modCtl p f s).pending = s.pending := by
  and_intros <;> rfl

@[simp] theorem modCtl_reads (p : Point) (f : PointRecord → PointRecord) (s : State) :
    (modCtl p f s).now = s.now ∧ (∀ j, (modCtl p f s).slot j = s.slot j)
    ∧ (∀ n, (modCtl p f s).slotOfSerial n = s.slotOfSerial n)
    ∧ (∀ l, (modCtl p f s).liveSlot l = s.liveSlot l) ∧ (∀ c, (modCtl p f s).slotOfCard c = s.slotOfCard c)
    ∧ (∀ l, (modCtl p f s).lane l = s.lane l) ∧ (∀ q, (modCtl p f s).productOf q = s.productOf q)
    ∧ (∀ q, (modCtl p f s).pumpOfPoint q = s.pumpOfPoint q) ∧ (∀ q, (modCtl p f s).fitted q = s.fitted q)
    ∧ (∀ y, (modCtl p f s).pump y = s.pump y) ∧ (∀ y, (modCtl p f s).pumpSettings y = s.pumpSettings y)
    ∧ (∀ x, (modCtl p f s).product x = s.product x) := by
  and_intros <;> intros <;> rfl

@[simp] theorem modMeter_keeps (p : Point) (f : Meter → Meter) (s : State) :
    (modMeter p f s).clock = s.clock ∧ (modMeter p f s).site = s.site
    ∧ (modMeter p f s).products = s.products ∧ (modMeter p f s).lanes = s.lanes
    ∧ (modMeter p f s).screening = s.screening ∧ (modMeter p f s).auth = s.auth
    ∧ (modMeter p f s).pumps = s.pumps ∧ (modMeter p f s).sup = s.sup ∧ (modMeter p f s).cal = s.cal
    ∧ (modMeter p f s).link = s.link ∧ (modMeter p f s).pending = s.pending := by
  and_intros <;> rfl

@[simp] theorem modMeter_reads (p : Point) (f : Meter → Meter) (s : State) :
    (modMeter p f s).now = s.now ∧ (∀ j, (modMeter p f s).slot j = s.slot j)
    ∧ (∀ n, (modMeter p f s).slotOfSerial n = s.slotOfSerial n)
    ∧ (∀ l, (modMeter p f s).liveSlot l = s.liveSlot l)
    ∧ (∀ c, (modMeter p f s).slotOfCard c = s.slotOfCard c) ∧ (∀ l, (modMeter p f s).lane l = s.lane l)
    ∧ (∀ q, (modMeter p f s).productOf q = s.productOf q)
    ∧ (∀ q, (modMeter p f s).pumpOfPoint q = s.pumpOfPoint q)
    ∧ (∀ q, (modMeter p f s).fitted q = s.fitted q) ∧ (∀ y, (modMeter p f s).pump y = s.pump y)
    ∧ (∀ y, (modMeter p f s).pumpSettings y = s.pumpSettings y)
    ∧ (∀ x, (modMeter p f s).product x = s.product x) := by
  and_intros <;> intros <;> rfl

@[simp] theorem modMonitor_keeps (p : Point) (f : Monitor → Monitor) (s : State) :
    (modMonitor p f s).clock = s.clock ∧ (modMonitor p f s).site = s.site
    ∧ (modMonitor p f s).products = s.products ∧ (modMonitor p f s).lanes = s.lanes
    ∧ (modMonitor p f s).screening = s.screening ∧ (modMonitor p f s).auth = s.auth
    ∧ (modMonitor p f s).pumps = s.pumps ∧ (modMonitor p f s).sup = s.sup ∧ (modMonitor p f s).cal = s.cal
    ∧ (modMonitor p f s).link = s.link ∧ (modMonitor p f s).pending = s.pending := by
  and_intros <;> rfl

@[simp] theorem modMonitor_reads (p : Point) (f : Monitor → Monitor) (s : State) :
    (modMonitor p f s).now = s.now ∧ (∀ j, (modMonitor p f s).slot j = s.slot j)
    ∧ (∀ n, (modMonitor p f s).slotOfSerial n = s.slotOfSerial n)
    ∧ (∀ l, (modMonitor p f s).liveSlot l = s.liveSlot l)
    ∧ (∀ c, (modMonitor p f s).slotOfCard c = s.slotOfCard c) ∧ (∀ l, (modMonitor p f s).lane l = s.lane l)
    ∧ (∀ q, (modMonitor p f s).productOf q = s.productOf q)
    ∧ (∀ q, (modMonitor p f s).pumpOfPoint q = s.pumpOfPoint q)
    ∧ (∀ q, (modMonitor p f s).fitted q = s.fitted q) ∧ (∀ y, (modMonitor p f s).pump y = s.pump y)
    ∧ (∀ y, (modMonitor p f s).pumpSettings y = s.pumpSettings y)
    ∧ (∀ x, (modMonitor p f s).product x = s.product x) := by
  and_intros <;> intros <;> rfl

@[simp] theorem modDelivery_keeps (p : Point) (f : Delivery → Delivery) (s : State) :
    (modDelivery p f s).clock = s.clock ∧ (modDelivery p f s).site = s.site
    ∧ (modDelivery p f s).products = s.products ∧ (modDelivery p f s).lanes = s.lanes
    ∧ (modDelivery p f s).screening = s.screening ∧ (modDelivery p f s).auth = s.auth
    ∧ (modDelivery p f s).pumps = s.pumps ∧ (modDelivery p f s).sup = s.sup
    ∧ (modDelivery p f s).cal = s.cal ∧ (modDelivery p f s).link = s.link
    ∧ (modDelivery p f s).pending = s.pending := by
  and_intros <;> rfl

@[simp] theorem modDelivery_reads (p : Point) (f : Delivery → Delivery) (s : State) :
    (modDelivery p f s).now = s.now ∧ (∀ j, (modDelivery p f s).slot j = s.slot j)
    ∧ (∀ n, (modDelivery p f s).slotOfSerial n = s.slotOfSerial n)
    ∧ (∀ l, (modDelivery p f s).liveSlot l = s.liveSlot l)
    ∧ (∀ c, (modDelivery p f s).slotOfCard c = s.slotOfCard c)
    ∧ (∀ l, (modDelivery p f s).lane l = s.lane l) ∧ (∀ q, (modDelivery p f s).productOf q = s.productOf q)
    ∧ (∀ q, (modDelivery p f s).pumpOfPoint q = s.pumpOfPoint q)
    ∧ (∀ q, (modDelivery p f s).fitted q = s.fitted q) ∧ (∀ y, (modDelivery p f s).pump y = s.pump y)
    ∧ (∀ y, (modDelivery p f s).pumpSettings y = s.pumpSettings y)
    ∧ (∀ x, (modDelivery p f s).product x = s.product x) := by
  and_intros <;> intros <;> rfl

@[simp] theorem modRun_keeps (p : Point) (f : ProvingRun → ProvingRun) (s : State) :
    (modRun p f s).clock = s.clock ∧ (modRun p f s).site = s.site ∧ (modRun p f s).products = s.products
    ∧ (modRun p f s).lanes = s.lanes ∧ (modRun p f s).screening = s.screening
    ∧ (modRun p f s).auth = s.auth ∧ (modRun p f s).pumps = s.pumps ∧ (modRun p f s).sup = s.sup
    ∧ (modRun p f s).cal = s.cal ∧ (modRun p f s).link = s.link ∧ (modRun p f s).pending = s.pending := by
  and_intros <;> rfl

@[simp] theorem modRun_reads (p : Point) (f : ProvingRun → ProvingRun) (s : State) :
    (modRun p f s).now = s.now ∧ (∀ j, (modRun p f s).slot j = s.slot j)
    ∧ (∀ n, (modRun p f s).slotOfSerial n = s.slotOfSerial n)
    ∧ (∀ l, (modRun p f s).liveSlot l = s.liveSlot l) ∧ (∀ c, (modRun p f s).slotOfCard c = s.slotOfCard c)
    ∧ (∀ l, (modRun p f s).lane l = s.lane l) ∧ (∀ q, (modRun p f s).productOf q = s.productOf q)
    ∧ (∀ q, (modRun p f s).pumpOfPoint q = s.pumpOfPoint q) ∧ (∀ q, (modRun p f s).fitted q = s.fitted q)
    ∧ (∀ y, (modRun p f s).pump y = s.pump y) ∧ (∀ y, (modRun p f s).pumpSettings y = s.pumpSettings y)
    ∧ (∀ x, (modRun p f s).product x = s.product x) := by
  and_intros <;> intros <;> rfl

@[simp] theorem setStage_keeps (p : Point) (v : ValveStage) (s : State) :
    (setStage p v s).clock = s.clock ∧ (setStage p v s).site = s.site
    ∧ (setStage p v s).products = s.products ∧ (setStage p v s).lanes = s.lanes
    ∧ (setStage p v s).screening = s.screening ∧ (setStage p v s).auth = s.auth
    ∧ (setStage p v s).pumps = s.pumps ∧ (setStage p v s).sup = s.sup ∧ (setStage p v s).cal = s.cal
    ∧ (setStage p v s).link = s.link ∧ (setStage p v s).pending = s.pending := by
  and_intros <;> rfl

@[simp] theorem setStage_reads (p : Point) (v : ValveStage) (s : State) :
    (setStage p v s).now = s.now ∧ (∀ j, (setStage p v s).slot j = s.slot j)
    ∧ (∀ n, (setStage p v s).slotOfSerial n = s.slotOfSerial n)
    ∧ (∀ l, (setStage p v s).liveSlot l = s.liveSlot l)
    ∧ (∀ c, (setStage p v s).slotOfCard c = s.slotOfCard c) ∧ (∀ l, (setStage p v s).lane l = s.lane l)
    ∧ (∀ q, (setStage p v s).productOf q = s.productOf q)
    ∧ (∀ q, (setStage p v s).pumpOfPoint q = s.pumpOfPoint q)
    ∧ (∀ q, (setStage p v s).fitted q = s.fitted q) ∧ (∀ y, (setStage p v s).pump y = s.pump y)
    ∧ (∀ y, (setStage p v s).pumpSettings y = s.pumpSettings y)
    ∧ (∀ x, (setStage p v s).product x = s.product x) := by
  and_intros <;> intros <;> rfl

@[simp] theorem raiseTotaliser_keeps (p : Point) (v : Nat) (s : State) :
    (raiseTotaliser p v s).clock = s.clock ∧ (raiseTotaliser p v s).site = s.site
    ∧ (raiseTotaliser p v s).products = s.products ∧ (raiseTotaliser p v s).lanes = s.lanes
    ∧ (raiseTotaliser p v s).screening = s.screening ∧ (raiseTotaliser p v s).auth = s.auth
    ∧ (raiseTotaliser p v s).pumps = s.pumps ∧ (raiseTotaliser p v s).sup = s.sup
    ∧ (raiseTotaliser p v s).cal = s.cal ∧ (raiseTotaliser p v s).link = s.link
    ∧ (raiseTotaliser p v s).pending = s.pending := by
  and_intros <;> rfl

@[simp] theorem raiseTotaliser_reads (p : Point) (v : Nat) (s : State) :
    (raiseTotaliser p v s).now = s.now ∧ (∀ j, (raiseTotaliser p v s).slot j = s.slot j)
    ∧ (∀ n, (raiseTotaliser p v s).slotOfSerial n = s.slotOfSerial n)
    ∧ (∀ l, (raiseTotaliser p v s).liveSlot l = s.liveSlot l)
    ∧ (∀ c, (raiseTotaliser p v s).slotOfCard c = s.slotOfCard c)
    ∧ (∀ l, (raiseTotaliser p v s).lane l = s.lane l)
    ∧ (∀ q, (raiseTotaliser p v s).productOf q = s.productOf q)
    ∧ (∀ q, (raiseTotaliser p v s).pumpOfPoint q = s.pumpOfPoint q)
    ∧ (∀ q, (raiseTotaliser p v s).fitted q = s.fitted q) ∧ (∀ y, (raiseTotaliser p v s).pump y = s.pump y)
    ∧ (∀ y, (raiseTotaliser p v s).pumpSettings y = s.pumpSettings y)
    ∧ (∀ x, (raiseTotaliser p v s).product x = s.product x) := by
  and_intros <;> intros <;> rfl

@[simp] theorem setSlot_keeps (k : Slot) (r : Option AuthRecord) (s : State) :
    (setSlot k r s).clock = s.clock ∧ (setSlot k r s).site = s.site ∧ (setSlot k r s).products = s.products
    ∧ (setSlot k r s).lanes = s.lanes ∧ (setSlot k r s).screening = s.screening
    ∧ (setSlot k r s).points = s.points ∧ (setSlot k r s).pumps = s.pumps ∧ (setSlot k r s).sup = s.sup
    ∧ (setSlot k r s).cal = s.cal ∧ (setSlot k r s).link = s.link ∧ (setSlot k r s).pending = s.pending := by
  and_intros <;> rfl

@[simp] theorem setSlot_reads (k : Slot) (r : Option AuthRecord) (s : State) :
    (setSlot k r s).now = s.now ∧ (∀ q, (setSlot k r s).point q = s.point q)
    ∧ (∀ q, (setSlot k r s).isBound q = s.isBound q) ∧ (∀ l, (setSlot k r s).lane l = s.lane l)
    ∧ (∀ q, (setSlot k r s).productOf q = s.productOf q)
    ∧ (∀ q, (setSlot k r s).pumpOfPoint q = s.pumpOfPoint q) ∧ (∀ q, (setSlot k r s).fitted q = s.fitted q)
    ∧ (∀ y, (setSlot k r s).pump y = s.pump y) ∧ (∀ y, (setSlot k r s).pumpSettings y = s.pumpSettings y)
    ∧ (∀ x, (setSlot k r s).product x = s.product x) := by
  and_intros <;> intros <;> rfl

@[simp] theorem modSlot_keeps (k : Slot) (f : AuthRecord → AuthRecord) (s : State) :
    (modSlot k f s).clock = s.clock ∧ (modSlot k f s).site = s.site ∧ (modSlot k f s).products = s.products
    ∧ (modSlot k f s).lanes = s.lanes ∧ (modSlot k f s).screening = s.screening
    ∧ (modSlot k f s).points = s.points ∧ (modSlot k f s).pumps = s.pumps ∧ (modSlot k f s).sup = s.sup
    ∧ (modSlot k f s).cal = s.cal ∧ (modSlot k f s).link = s.link ∧ (modSlot k f s).pending = s.pending := by
  and_intros <;> rfl

@[simp] theorem modSlot_reads (k : Slot) (f : AuthRecord → AuthRecord) (s : State) :
    (modSlot k f s).now = s.now ∧ (∀ q, (modSlot k f s).point q = s.point q)
    ∧ (∀ q, (modSlot k f s).isBound q = s.isBound q) ∧ (∀ l, (modSlot k f s).lane l = s.lane l)
    ∧ (∀ q, (modSlot k f s).productOf q = s.productOf q)
    ∧ (∀ q, (modSlot k f s).pumpOfPoint q = s.pumpOfPoint q) ∧ (∀ q, (modSlot k f s).fitted q = s.fitted q)
    ∧ (∀ y, (modSlot k f s).pump y = s.pump y) ∧ (∀ y, (modSlot k f s).pumpSettings y = s.pumpSettings y)
    ∧ (∀ x, (modSlot k f s).product x = s.product x) := by
  and_intros <;> intros <;> rfl

@[simp] theorem freeSlot_keeps (k : Slot) (s : State) :
    (freeSlot k s).clock = s.clock ∧ (freeSlot k s).site = s.site ∧ (freeSlot k s).products = s.products
    ∧ (freeSlot k s).lanes = s.lanes ∧ (freeSlot k s).screening = s.screening
    ∧ (freeSlot k s).points = s.points ∧ (freeSlot k s).pumps = s.pumps ∧ (freeSlot k s).sup = s.sup
    ∧ (freeSlot k s).cal = s.cal ∧ (freeSlot k s).link = s.link ∧ (freeSlot k s).pending = s.pending := by
  and_intros <;> rfl

@[simp] theorem freeSlot_reads (k : Slot) (s : State) :
    (freeSlot k s).now = s.now ∧ (∀ q, (freeSlot k s).point q = s.point q)
    ∧ (∀ q, (freeSlot k s).isBound q = s.isBound q) ∧ (∀ l, (freeSlot k s).lane l = s.lane l)
    ∧ (∀ q, (freeSlot k s).productOf q = s.productOf q)
    ∧ (∀ q, (freeSlot k s).pumpOfPoint q = s.pumpOfPoint q) ∧ (∀ q, (freeSlot k s).fitted q = s.fitted q)
    ∧ (∀ y, (freeSlot k s).pump y = s.pump y) ∧ (∀ y, (freeSlot k s).pumpSettings y = s.pumpSettings y)
    ∧ (∀ x, (freeSlot k s).product x = s.product x) := by
  and_intros <;> intros <;> rfl

@[simp] theorem joinSales_keeps (m : Nat) (s : State) :
    (joinSales m s).clock = s.clock ∧ (joinSales m s).site = s.site ∧ (joinSales m s).products = s.products
    ∧ (joinSales m s).lanes = s.lanes ∧ (joinSales m s).screening = s.screening
    ∧ (joinSales m s).points = s.points ∧ (joinSales m s).pumps = s.pumps ∧ (joinSales m s).sup = s.sup
    ∧ (joinSales m s).cal = s.cal ∧ (joinSales m s).link = s.link ∧ (joinSales m s).pending = s.pending := by
  and_intros <;> rfl

@[simp] theorem joinSales_reads (m : Nat) (s : State) :
    (joinSales m s).now = s.now ∧ (∀ q, (joinSales m s).point q = s.point q)
    ∧ (∀ q, (joinSales m s).isBound q = s.isBound q) ∧ (∀ l, (joinSales m s).lane l = s.lane l)
    ∧ (∀ q, (joinSales m s).productOf q = s.productOf q)
    ∧ (∀ q, (joinSales m s).pumpOfPoint q = s.pumpOfPoint q) ∧ (∀ q, (joinSales m s).fitted q = s.fitted q)
    ∧ (∀ y, (joinSales m s).pump y = s.pump y) ∧ (∀ y, (joinSales m s).pumpSettings y = s.pumpSettings y)
    ∧ (∀ x, (joinSales m s).product x = s.product x) := by
  and_intros <;> intros <;> rfl

@[simp] theorem modPump_keeps (k : Pump) (f : PumpRecord → PumpRecord) (s : State) :
    (modPump k f s).clock = s.clock ∧ (modPump k f s).site = s.site ∧ (modPump k f s).products = s.products
    ∧ (modPump k f s).lanes = s.lanes ∧ (modPump k f s).screening = s.screening
    ∧ (modPump k f s).auth = s.auth ∧ (modPump k f s).points = s.points ∧ (modPump k f s).sup = s.sup
    ∧ (modPump k f s).cal = s.cal ∧ (modPump k f s).link = s.link ∧ (modPump k f s).pending = s.pending := by
  and_intros <;> rfl

@[simp] theorem modPump_reads (k : Pump) (f : PumpRecord → PumpRecord) (s : State) :
    (modPump k f s).now = s.now ∧ (∀ q, (modPump k f s).point q = s.point q)
    ∧ (∀ q, (modPump k f s).isBound q = s.isBound q) ∧ (∀ j, (modPump k f s).slot j = s.slot j)
    ∧ (∀ n, (modPump k f s).slotOfSerial n = s.slotOfSerial n)
    ∧ (∀ l, (modPump k f s).liveSlot l = s.liveSlot l)
    ∧ (∀ c, (modPump k f s).slotOfCard c = s.slotOfCard c)
    ∧ (∀ q, (modPump k f s).boundSlot q = s.boundSlot q) ∧ (∀ l, (modPump k f s).lane l = s.lane l)
    ∧ (∀ q, (modPump k f s).productOf q = s.productOf q)
    ∧ (∀ q, (modPump k f s).pumpOfPoint q = s.pumpOfPoint q) ∧ (∀ q, (modPump k f s).fitted q = s.fitted q)
    ∧ (∀ y, (modPump k f s).pumpSettings y = s.pumpSettings y)
    ∧ (∀ x, (modPump k f s).product x = s.product x) := by
  and_intros <;> intros <;> rfl

@[simp] theorem modPointAlarms_keeps (p : Point) (f : PointAlarms → PointAlarms) (s : State) :
    (modPointAlarms p f s).clock = s.clock ∧ (modPointAlarms p f s).site = s.site
    ∧ (modPointAlarms p f s).products = s.products ∧ (modPointAlarms p f s).lanes = s.lanes
    ∧ (modPointAlarms p f s).screening = s.screening ∧ (modPointAlarms p f s).auth = s.auth
    ∧ (modPointAlarms p f s).points = s.points ∧ (modPointAlarms p f s).pumps = s.pumps
    ∧ (modPointAlarms p f s).cal = s.cal ∧ (modPointAlarms p f s).link = s.link
    ∧ (modPointAlarms p f s).pending = s.pending := by
  and_intros <;> rfl

@[simp] theorem modPointAlarms_reads (p : Point) (f : PointAlarms → PointAlarms) (s : State) :
    (modPointAlarms p f s).now = s.now ∧ (∀ q, (modPointAlarms p f s).point q = s.point q)
    ∧ (∀ q, (modPointAlarms p f s).isBound q = s.isBound q)
    ∧ (∀ j, (modPointAlarms p f s).slot j = s.slot j)
    ∧ (∀ n, (modPointAlarms p f s).slotOfSerial n = s.slotOfSerial n)
    ∧ (∀ l, (modPointAlarms p f s).liveSlot l = s.liveSlot l)
    ∧ (∀ c, (modPointAlarms p f s).slotOfCard c = s.slotOfCard c)
    ∧ (∀ q, (modPointAlarms p f s).boundSlot q = s.boundSlot q)
    ∧ (∀ l, (modPointAlarms p f s).lane l = s.lane l)
    ∧ (∀ q, (modPointAlarms p f s).productOf q = s.productOf q)
    ∧ (∀ q, (modPointAlarms p f s).pumpOfPoint q = s.pumpOfPoint q)
    ∧ (∀ q, (modPointAlarms p f s).fitted q = s.fitted q) ∧ (∀ y, (modPointAlarms p f s).pump y = s.pump y)
    ∧ (∀ y, (modPointAlarms p f s).pumpSettings y = s.pumpSettings y)
    ∧ (∀ x, (modPointAlarms p f s).product x = s.product x) := by
  and_intros <;> intros <;> rfl

@[simp] theorem modSiteAlarms_keeps (f : SiteAlarms → SiteAlarms) (s : State) :
    (modSiteAlarms f s).clock = s.clock ∧ (modSiteAlarms f s).site = s.site
    ∧ (modSiteAlarms f s).products = s.products ∧ (modSiteAlarms f s).lanes = s.lanes
    ∧ (modSiteAlarms f s).screening = s.screening ∧ (modSiteAlarms f s).auth = s.auth
    ∧ (modSiteAlarms f s).points = s.points ∧ (modSiteAlarms f s).pumps = s.pumps
    ∧ (modSiteAlarms f s).cal = s.cal ∧ (modSiteAlarms f s).link = s.link
    ∧ (modSiteAlarms f s).pending = s.pending := by
  and_intros <;> rfl

@[simp] theorem modSiteAlarms_reads (f : SiteAlarms → SiteAlarms) (s : State) :
    (modSiteAlarms f s).now = s.now ∧ (∀ q, (modSiteAlarms f s).point q = s.point q)
    ∧ (∀ q, (modSiteAlarms f s).isBound q = s.isBound q) ∧ (∀ j, (modSiteAlarms f s).slot j = s.slot j)
    ∧ (∀ n, (modSiteAlarms f s).slotOfSerial n = s.slotOfSerial n)
    ∧ (∀ l, (modSiteAlarms f s).liveSlot l = s.liveSlot l)
    ∧ (∀ c, (modSiteAlarms f s).slotOfCard c = s.slotOfCard c)
    ∧ (∀ q, (modSiteAlarms f s).boundSlot q = s.boundSlot q) ∧ (∀ l, (modSiteAlarms f s).lane l = s.lane l)
    ∧ (∀ q, (modSiteAlarms f s).productOf q = s.productOf q)
    ∧ (∀ q, (modSiteAlarms f s).pumpOfPoint q = s.pumpOfPoint q)
    ∧ (∀ q, (modSiteAlarms f s).fitted q = s.fitted q) ∧ (∀ y, (modSiteAlarms f s).pump y = s.pump y)
    ∧ (∀ y, (modSiteAlarms f s).pumpSettings y = s.pumpSettings y)
    ∧ (∀ x, (modSiteAlarms f s).product x = s.product x) := by
  and_intros <;> intros <;> rfl

@[simp] theorem takeSnapshot_keeps (s : State) :
    (takeSnapshot s).clock = s.clock ∧ (takeSnapshot s).site = s.site
    ∧ (takeSnapshot s).products = s.products ∧ (takeSnapshot s).lanes = s.lanes
    ∧ (takeSnapshot s).screening = s.screening ∧ (takeSnapshot s).auth = s.auth
    ∧ (takeSnapshot s).points = s.points ∧ (takeSnapshot s).pumps = s.pumps ∧ (takeSnapshot s).cal = s.cal
    ∧ (takeSnapshot s).link = s.link ∧ (takeSnapshot s).pending = s.pending := by
  and_intros <;> rfl

@[simp] theorem takeSnapshot_reads (s : State) :
    (takeSnapshot s).now = s.now ∧ (∀ q, (takeSnapshot s).point q = s.point q)
    ∧ (∀ q, (takeSnapshot s).isBound q = s.isBound q) ∧ (∀ j, (takeSnapshot s).slot j = s.slot j)
    ∧ (∀ n, (takeSnapshot s).slotOfSerial n = s.slotOfSerial n)
    ∧ (∀ l, (takeSnapshot s).liveSlot l = s.liveSlot l)
    ∧ (∀ c, (takeSnapshot s).slotOfCard c = s.slotOfCard c)
    ∧ (∀ q, (takeSnapshot s).boundSlot q = s.boundSlot q) ∧ (∀ l, (takeSnapshot s).lane l = s.lane l)
    ∧ (∀ q, (takeSnapshot s).productOf q = s.productOf q)
    ∧ (∀ q, (takeSnapshot s).pumpOfPoint q = s.pumpOfPoint q)
    ∧ (∀ q, (takeSnapshot s).fitted q = s.fitted q) ∧ (∀ y, (takeSnapshot s).pump y = s.pump y)
    ∧ (∀ y, (takeSnapshot s).pumpSettings y = s.pumpSettings y)
    ∧ (∀ x, (takeSnapshot s).product x = s.product x) := by
  and_intros <;> intros <;> rfl

@[simp] theorem modHistory_keeps (f : List HistoryEntry → List HistoryEntry) (s : State) :
    (modHistory f s).clock = s.clock ∧ (modHistory f s).site = s.site
    ∧ (modHistory f s).products = s.products ∧ (modHistory f s).lanes = s.lanes
    ∧ (modHistory f s).auth = s.auth ∧ (modHistory f s).points = s.points
    ∧ (modHistory f s).pumps = s.pumps ∧ (modHistory f s).sup = s.sup ∧ (modHistory f s).cal = s.cal
    ∧ (modHistory f s).link = s.link ∧ (modHistory f s).pending = s.pending := by
  and_intros <;> rfl

@[simp] theorem modHistory_reads (f : List HistoryEntry → List HistoryEntry) (s : State) :
    (modHistory f s).now = s.now ∧ (∀ q, (modHistory f s).point q = s.point q)
    ∧ (∀ q, (modHistory f s).isBound q = s.isBound q) ∧ (∀ j, (modHistory f s).slot j = s.slot j)
    ∧ (∀ n, (modHistory f s).slotOfSerial n = s.slotOfSerial n)
    ∧ (∀ l, (modHistory f s).liveSlot l = s.liveSlot l)
    ∧ (∀ c, (modHistory f s).slotOfCard c = s.slotOfCard c)
    ∧ (∀ q, (modHistory f s).boundSlot q = s.boundSlot q) ∧ (∀ l, (modHistory f s).lane l = s.lane l)
    ∧ (∀ q, (modHistory f s).productOf q = s.productOf q)
    ∧ (∀ q, (modHistory f s).pumpOfPoint q = s.pumpOfPoint q)
    ∧ (∀ q, (modHistory f s).fitted q = s.fitted q) ∧ (∀ y, (modHistory f s).pump y = s.pump y)
    ∧ (∀ y, (modHistory f s).pumpSettings y = s.pumpSettings y)
    ∧ (∀ x, (modHistory f s).product x = s.product x) := by
  and_intros <;> intros <;> rfl

@[simp] theorem setHotList_keeps (h : List CardNumber) (s : State) :
    (setHotList h s).clock = s.clock ∧ (setHotList h s).site = s.site
    ∧ (setHotList h s).products = s.products ∧ (setHotList h s).lanes = s.lanes
    ∧ (setHotList h s).auth = s.auth ∧ (setHotList h s).points = s.points
    ∧ (setHotList h s).pumps = s.pumps ∧ (setHotList h s).sup = s.sup ∧ (setHotList h s).cal = s.cal
    ∧ (setHotList h s).link = s.link ∧ (setHotList h s).pending = s.pending := by
  and_intros <;> rfl

@[simp] theorem setHotList_reads (h : List CardNumber) (s : State) :
    (setHotList h s).now = s.now ∧ (∀ q, (setHotList h s).point q = s.point q)
    ∧ (∀ q, (setHotList h s).isBound q = s.isBound q) ∧ (∀ j, (setHotList h s).slot j = s.slot j)
    ∧ (∀ n, (setHotList h s).slotOfSerial n = s.slotOfSerial n)
    ∧ (∀ l, (setHotList h s).liveSlot l = s.liveSlot l)
    ∧ (∀ c, (setHotList h s).slotOfCard c = s.slotOfCard c)
    ∧ (∀ q, (setHotList h s).boundSlot q = s.boundSlot q) ∧ (∀ l, (setHotList h s).lane l = s.lane l)
    ∧ (∀ q, (setHotList h s).productOf q = s.productOf q)
    ∧ (∀ q, (setHotList h s).pumpOfPoint q = s.pumpOfPoint q)
    ∧ (∀ q, (setHotList h s).fitted q = s.fitted q) ∧ (∀ y, (setHotList h s).pump y = s.pump y)
    ∧ (∀ y, (setHotList h s).pumpSettings y = s.pumpSettings y)
    ∧ (∀ x, (setHotList h s).product x = s.product x) := by
  and_intros <;> intros <;> rfl

@[simp] theorem storeProfile_keeps (i : Fin 64) (e : Profile) (s : State) :
    (storeProfile i e s).clock = s.clock ∧ (storeProfile i e s).site = s.site
    ∧ (storeProfile i e s).products = s.products ∧ (storeProfile i e s).lanes = s.lanes
    ∧ (storeProfile i e s).auth = s.auth ∧ (storeProfile i e s).points = s.points
    ∧ (storeProfile i e s).pumps = s.pumps ∧ (storeProfile i e s).sup = s.sup
    ∧ (storeProfile i e s).cal = s.cal ∧ (storeProfile i e s).link = s.link
    ∧ (storeProfile i e s).pending = s.pending := by
  and_intros <;> rfl

@[simp] theorem storeProfile_reads (i : Fin 64) (e : Profile) (s : State) :
    (storeProfile i e s).now = s.now ∧ (∀ q, (storeProfile i e s).point q = s.point q)
    ∧ (∀ q, (storeProfile i e s).isBound q = s.isBound q) ∧ (∀ j, (storeProfile i e s).slot j = s.slot j)
    ∧ (∀ n, (storeProfile i e s).slotOfSerial n = s.slotOfSerial n)
    ∧ (∀ l, (storeProfile i e s).liveSlot l = s.liveSlot l)
    ∧ (∀ c, (storeProfile i e s).slotOfCard c = s.slotOfCard c)
    ∧ (∀ q, (storeProfile i e s).boundSlot q = s.boundSlot q)
    ∧ (∀ l, (storeProfile i e s).lane l = s.lane l)
    ∧ (∀ q, (storeProfile i e s).productOf q = s.productOf q)
    ∧ (∀ q, (storeProfile i e s).pumpOfPoint q = s.pumpOfPoint q)
    ∧ (∀ q, (storeProfile i e s).fitted q = s.fitted q) ∧ (∀ y, (storeProfile i e s).pump y = s.pump y)
    ∧ (∀ y, (storeProfile i e s).pumpSettings y = s.pumpSettings y)
    ∧ (∀ x, (storeProfile i e s).product x = s.product x) := by
  and_intros <;> intros <;> rfl

@[simp] theorem storeLane_keeps (k : Lane) (e : LaneConfig) (s : State) :
    (storeLane k e s).clock = s.clock ∧ (storeLane k e s).site = s.site
    ∧ (storeLane k e s).products = s.products ∧ (storeLane k e s).screening = s.screening
    ∧ (storeLane k e s).auth = s.auth ∧ (storeLane k e s).points = s.points
    ∧ (storeLane k e s).pumps = s.pumps ∧ (storeLane k e s).sup = s.sup ∧ (storeLane k e s).cal = s.cal
    ∧ (storeLane k e s).link = s.link ∧ (storeLane k e s).pending = s.pending := by
  and_intros <;> rfl

@[simp] theorem storeLane_reads (k : Lane) (e : LaneConfig) (s : State) :
    (storeLane k e s).now = s.now ∧ (∀ q, (storeLane k e s).point q = s.point q)
    ∧ (∀ q, (storeLane k e s).isBound q = s.isBound q) ∧ (∀ j, (storeLane k e s).slot j = s.slot j)
    ∧ (∀ n, (storeLane k e s).slotOfSerial n = s.slotOfSerial n)
    ∧ (∀ l, (storeLane k e s).liveSlot l = s.liveSlot l)
    ∧ (∀ c, (storeLane k e s).slotOfCard c = s.slotOfCard c)
    ∧ (∀ q, (storeLane k e s).boundSlot q = s.boundSlot q) ∧ (∀ y, (storeLane k e s).pump y = s.pump y)
    ∧ (∀ y, (storeLane k e s).pumpSettings y = s.pumpSettings y)
    ∧ (∀ x, (storeLane k e s).product x = s.product x) := by
  and_intros <;> intros <;> rfl

@[simp] theorem storeProduct_keeps (r : Product) (e : ProductEntry) (s : State) :
    (storeProduct r e s).clock = s.clock ∧ (storeProduct r e s).site = s.site
    ∧ (storeProduct r e s).lanes = s.lanes ∧ (storeProduct r e s).screening = s.screening
    ∧ (storeProduct r e s).auth = s.auth ∧ (storeProduct r e s).points = s.points
    ∧ (storeProduct r e s).pumps = s.pumps ∧ (storeProduct r e s).sup = s.sup
    ∧ (storeProduct r e s).cal = s.cal ∧ (storeProduct r e s).link = s.link
    ∧ (storeProduct r e s).pending = s.pending := by
  and_intros <;> rfl

@[simp] theorem storeProduct_reads (r : Product) (e : ProductEntry) (s : State) :
    (storeProduct r e s).now = s.now ∧ (∀ q, (storeProduct r e s).point q = s.point q)
    ∧ (∀ q, (storeProduct r e s).isBound q = s.isBound q) ∧ (∀ j, (storeProduct r e s).slot j = s.slot j)
    ∧ (∀ n, (storeProduct r e s).slotOfSerial n = s.slotOfSerial n)
    ∧ (∀ l, (storeProduct r e s).liveSlot l = s.liveSlot l)
    ∧ (∀ c, (storeProduct r e s).slotOfCard c = s.slotOfCard c)
    ∧ (∀ q, (storeProduct r e s).boundSlot q = s.boundSlot q)
    ∧ (∀ l, (storeProduct r e s).lane l = s.lane l)
    ∧ (∀ q, (storeProduct r e s).productOf q = s.productOf q)
    ∧ (∀ q, (storeProduct r e s).pumpOfPoint q = s.pumpOfPoint q)
    ∧ (∀ q, (storeProduct r e s).fitted q = s.fitted q) ∧ (∀ y, (storeProduct r e s).pump y = s.pump y)
    ∧ (∀ y, (storeProduct r e s).pumpSettings y = s.pumpSettings y) := by
  and_intros <;> intros <;> rfl

@[simp] theorem reply_keeps (k : Byte) (st : Status) (d : ReplyData) (s : State) :
    (reply k st d s).clock = s.clock ∧ (reply k st d s).site = s.site
    ∧ (reply k st d s).products = s.products ∧ (reply k st d s).lanes = s.lanes
    ∧ (reply k st d s).screening = s.screening ∧ (reply k st d s).auth = s.auth
    ∧ (reply k st d s).points = s.points ∧ (reply k st d s).pumps = s.pumps ∧ (reply k st d s).sup = s.sup
    ∧ (reply k st d s).cal = s.cal ∧ (reply k st d s).pending = s.pending := by
  and_intros <;> rfl

@[simp] theorem reply_reads (k : Byte) (st : Status) (d : ReplyData) (s : State) :
    (reply k st d s).now = s.now ∧ (∀ q, (reply k st d s).point q = s.point q)
    ∧ (∀ q, (reply k st d s).isBound q = s.isBound q) ∧ (∀ j, (reply k st d s).slot j = s.slot j)
    ∧ (∀ n, (reply k st d s).slotOfSerial n = s.slotOfSerial n)
    ∧ (∀ l, (reply k st d s).liveSlot l = s.liveSlot l)
    ∧ (∀ c, (reply k st d s).slotOfCard c = s.slotOfCard c)
    ∧ (∀ q, (reply k st d s).boundSlot q = s.boundSlot q) ∧ (∀ l, (reply k st d s).lane l = s.lane l)
    ∧ (∀ q, (reply k st d s).productOf q = s.productOf q)
    ∧ (∀ q, (reply k st d s).pumpOfPoint q = s.pumpOfPoint q)
    ∧ (∀ q, (reply k st d s).fitted q = s.fitted q) ∧ (∀ y, (reply k st d s).pump y = s.pump y)
    ∧ (∀ y, (reply k st d s).pumpSettings y = s.pumpSettings y)
    ∧ (∀ x, (reply k st d s).product x = s.product x) := by
  and_intros <;> intros <;> rfl

@[simp] theorem endBroadcast_keeps (s : State) :
    (endBroadcast s).clock = s.clock ∧ (endBroadcast s).site = s.site
    ∧ (endBroadcast s).products = s.products ∧ (endBroadcast s).lanes = s.lanes
    ∧ (endBroadcast s).screening = s.screening ∧ (endBroadcast s).auth = s.auth
    ∧ (endBroadcast s).points = s.points ∧ (endBroadcast s).pumps = s.pumps ∧ (endBroadcast s).sup = s.sup
    ∧ (endBroadcast s).cal = s.cal ∧ (endBroadcast s).pending = s.pending := by
  and_intros <;> rfl

@[simp] theorem endBroadcast_reads (s : State) :
    (endBroadcast s).now = s.now ∧ (∀ q, (endBroadcast s).point q = s.point q)
    ∧ (∀ q, (endBroadcast s).isBound q = s.isBound q) ∧ (∀ j, (endBroadcast s).slot j = s.slot j)
    ∧ (∀ n, (endBroadcast s).slotOfSerial n = s.slotOfSerial n)
    ∧ (∀ l, (endBroadcast s).liveSlot l = s.liveSlot l)
    ∧ (∀ c, (endBroadcast s).slotOfCard c = s.slotOfCard c)
    ∧ (∀ q, (endBroadcast s).boundSlot q = s.boundSlot q) ∧ (∀ l, (endBroadcast s).lane l = s.lane l)
    ∧ (∀ q, (endBroadcast s).productOf q = s.productOf q)
    ∧ (∀ q, (endBroadcast s).pumpOfPoint q = s.pumpOfPoint q)
    ∧ (∀ q, (endBroadcast s).fitted q = s.fitted q) ∧ (∀ y, (endBroadcast s).pump y = s.pump y)
    ∧ (∀ y, (endBroadcast s).pumpSettings y = s.pumpSettings y)
    ∧ (∀ x, (endBroadcast s).product x = s.product x) := by
  and_intros <;> intros <;> rfl

@[simp] theorem State.toHunt_keeps (s : State) :
    (State.toHunt s).clock = s.clock ∧ (State.toHunt s).site = s.site
    ∧ (State.toHunt s).products = s.products ∧ (State.toHunt s).lanes = s.lanes
    ∧ (State.toHunt s).screening = s.screening ∧ (State.toHunt s).auth = s.auth
    ∧ (State.toHunt s).points = s.points ∧ (State.toHunt s).pumps = s.pumps ∧ (State.toHunt s).sup = s.sup
    ∧ (State.toHunt s).cal = s.cal ∧ (State.toHunt s).pending = s.pending := by
  and_intros <;> rfl

@[simp] theorem State.toHunt_reads (s : State) :
    (State.toHunt s).now = s.now ∧ (∀ q, (State.toHunt s).point q = s.point q)
    ∧ (∀ q, (State.toHunt s).isBound q = s.isBound q) ∧ (∀ j, (State.toHunt s).slot j = s.slot j)
    ∧ (∀ n, (State.toHunt s).slotOfSerial n = s.slotOfSerial n)
    ∧ (∀ l, (State.toHunt s).liveSlot l = s.liveSlot l)
    ∧ (∀ c, (State.toHunt s).slotOfCard c = s.slotOfCard c)
    ∧ (∀ q, (State.toHunt s).boundSlot q = s.boundSlot q) ∧ (∀ l, (State.toHunt s).lane l = s.lane l)
    ∧ (∀ q, (State.toHunt s).productOf q = s.productOf q)
    ∧ (∀ q, (State.toHunt s).pumpOfPoint q = s.pumpOfPoint q)
    ∧ (∀ q, (State.toHunt s).fitted q = s.fitted q) ∧ (∀ y, (State.toHunt s).pump y = s.pump y)
    ∧ (∀ y, (State.toHunt s).pumpSettings y = s.pumpSettings y)
    ∧ (∀ x, (State.toHunt s).product x = s.product x) := by
  and_intros <;> intros <;> rfl

/-! ### What each update puts in place -/

theorem allPoints_mem (p : Point) : p ∈ allPoints := List.mem_finRange p
theorem allSlots_mem (k : Slot) : k ∈ allSlots := List.mem_finRange k

@[simp] theorem point_modPoint (p : Point) (f : PointUnit → PointUnit) (s : State) :
    (modPoint p f s).point p = f (s.point p) := by
  simp [State.point, modPoint]

@[simp] theorem point_modPoint_ne (p q : Point) (f : PointUnit → PointUnit) (s : State) (h : q ≠ p) :
    (modPoint p f s).point q = s.point q := by
  have h' : p.val ≠ q.val := fun e => h (Fin.ext e.symm)
  simp [State.point, modPoint, Vector.getElem_set_ne, h']

@[simp] theorem point_modCtl (p : Point) (f : PointRecord → PointRecord) (s : State) :
    (modCtl p f s).point p = { s.point p with ctl := f (s.point p).ctl } := point_modPoint p _ s

@[simp] theorem point_modCtl_ne (p q : Point) (f : PointRecord → PointRecord) (s : State) (h : q ≠ p) :
    (modCtl p f s).point q = s.point q := point_modPoint_ne p q _ s h

@[simp] theorem point_modMeter (p : Point) (f : Meter → Meter) (s : State) :
    (modMeter p f s).point p = { s.point p with meter := f (s.point p).meter } := point_modPoint p _ s

@[simp] theorem point_modMeter_ne (p q : Point) (f : Meter → Meter) (s : State) (h : q ≠ p) :
    (modMeter p f s).point q = s.point q := point_modPoint_ne p q _ s h

@[simp] theorem point_modMonitor (p : Point) (f : Monitor → Monitor) (s : State) :
    (modMonitor p f s).point p = { s.point p with monitor := f (s.point p).monitor } := point_modPoint p _ s

@[simp] theorem point_modMonitor_ne (p q : Point) (f : Monitor → Monitor) (s : State) (h : q ≠ p) :
    (modMonitor p f s).point q = s.point q := point_modPoint_ne p q _ s h

@[simp] theorem point_modDelivery (p : Point) (f : Delivery → Delivery) (s : State) :
    (modDelivery p f s).point p =
      { s.point p with ctl := { (s.point p).ctl with delivery := (s.point p).ctl.delivery.map f } } :=
  point_modPoint p _ s

@[simp] theorem point_modDelivery_ne (p q : Point) (f : Delivery → Delivery) (s : State) (h : q ≠ p) :
    (modDelivery p f s).point q = s.point q := point_modPoint_ne p q _ s h

@[simp] theorem point_modRun (p : Point) (f : ProvingRun → ProvingRun) (s : State) :
    (modRun p f s).point p =
      { s.point p with ctl := { (s.point p).ctl with proving := (s.point p).ctl.proving.map f } } :=
  point_modPoint p _ s

@[simp] theorem point_modRun_ne (p q : Point) (f : ProvingRun → ProvingRun) (s : State) (h : q ≠ p) :
    (modRun p f s).point q = s.point q := point_modPoint_ne p q _ s h

@[simp] theorem point_setStage (p : Point) (v : ValveStage) (s : State) :
    (setStage p v s).point p = stageUnit v (s.point p) := point_modPoint p _ s

@[simp] theorem point_setStage_ne (p q : Point) (v : ValveStage) (s : State) (h : q ≠ p) :
    (setStage p v s).point q = s.point q := point_modPoint_ne p q _ s h

@[simp] theorem point_raiseTotaliser (p : Point) (v : Nat) (s : State) :
    (raiseTotaliser p v s).point p =
      { s.point p with
        totaliser := max (s.point p).totaliser (min ((s.point p).totaliser + v) Config.maxTotal) } :=
  point_modPoint p _ s

@[simp] theorem point_raiseTotaliser_ne (p q : Point) (v : Nat) (s : State) (h : q ≠ p) :
    (raiseTotaliser p v s).point q = s.point q := point_modPoint_ne p q _ s h

/-- What a change of stage leaves of a point, and the stage it gives. -/
@[simp] theorem stageUnit_keeps (v : ValveStage) (u : PointUnit) :
    (stageUnit v u).ctl = { u.ctl with stage := v } ∧ (stageUnit v u).meter = u.meter
    ∧ (stageUnit v u).config = u.config ∧ (stageUnit v u).cal = u.cal ∧ (stageUnit v u).totaliser = u.totaliser
    ∧ (stageUnit v u).inputPair = u.inputPair := ⟨rfl, rfl, rfl, rfl, rfl, rfl⟩

@[simp] theorem slot_setSlot (k : Slot) (r : Option AuthRecord) (s : State) : (setSlot k r s).slot k = r := by
  simp [State.slot, setSlot]

@[simp] theorem slot_setSlot_ne (k j : Slot) (r : Option AuthRecord) (s : State) (h : j ≠ k) :
    (setSlot k r s).slot j = s.slot j := by
  have h' : k.val ≠ j.val := fun e => h (Fin.ext e.symm)
  simp [State.slot, setSlot, Vector.getElem_set_ne, h']

@[simp] theorem slot_modSlot (k : Slot) (f : AuthRecord → AuthRecord) (s : State) :
    (modSlot k f s).slot k = (s.slot k).map f := slot_setSlot k _ s

@[simp] theorem slot_modSlot_ne (k j : Slot) (f : AuthRecord → AuthRecord) (s : State) (h : j ≠ k) :
    (modSlot k f s).slot j = s.slot j := slot_setSlot_ne k j _ s h

@[simp] theorem slot_freeSlot (k : Slot) (s : State) : (freeSlot k s).slot k = none := slot_setSlot k _ s

@[simp] theorem slot_freeSlot_ne (k j : Slot) (s : State) (h : j ≠ k) : (freeSlot k s).slot j = s.slot j :=
  slot_setSlot_ne k j _ s h

@[simp] theorem slot_joinSales (n : Nat) (s : State) (k : Slot) : (joinSales n s).slot k = s.slot k := rfl

@[simp] theorem auth_setSlot (k : Slot) (r : Option AuthRecord) (s : State) :
    (setSlot k r s).auth.serial = s.auth.serial ∧ (setSlot k r s).auth.sales = s.auth.sales := ⟨rfl, rfl⟩

@[simp] theorem auth_modSlot (k : Slot) (f : AuthRecord → AuthRecord) (s : State) :
    (modSlot k f s).auth.serial = s.auth.serial ∧ (modSlot k f s).auth.sales = s.auth.sales := ⟨rfl, rfl⟩

@[simp] theorem auth_freeSlot (k : Slot) (s : State) :
    (freeSlot k s).auth.serial = s.auth.serial ∧ (freeSlot k s).auth.sales = s.auth.sales := ⟨rfl, rfl⟩

@[simp] theorem auth_joinSales (n : Nat) (s : State) :
    (joinSales n s).auth.serial = s.auth.serial ∧ (joinSales n s).auth.sales = s.auth.sales ++ [n] := ⟨rfl, rfl⟩

@[simp] theorem pump_modPump (k : Pump) (f : PumpRecord → PumpRecord) (s : State) :
    (modPump k f s).pump k = f (s.pump k) := by
  cases k <;> rfl

@[simp] theorem pump_modPump_ne (k j : Pump) (f : PumpRecord → PumpRecord) (s : State) (h : j ≠ k) :
    (modPump k f s).pump j = s.pump j := by
  cases k <;> cases j <;> first | rfl | exact absurd rfl h

@[simp] theorem screening_modHistory (f : List HistoryEntry → List HistoryEntry) (s : State) :
    (modHistory f s).screening.profiles = s.screening.profiles
    ∧ (modHistory f s).screening.valid = s.screening.valid
    ∧ (modHistory f s).screening.hotList = s.screening.hotList
    ∧ (modHistory f s).screening.history = f s.screening.history := ⟨rfl, rfl, rfl, rfl⟩

@[simp] theorem screening_setHotList (h : List CardNumber) (s : State) :
    (setHotList h s).screening.profiles = s.screening.profiles
    ∧ (setHotList h s).screening.valid = s.screening.valid
    ∧ (setHotList h s).screening.hotList = h
    ∧ (setHotList h s).screening.history = s.screening.history := ⟨rfl, rfl, rfl, rfl⟩

@[simp] theorem screening_storeProfile (i : Fin 64) (e : Profile) (s : State) :
    (storeProfile i e s).screening.profiles = s.screening.profiles.set i.val e
    ∧ (storeProfile i e s).screening.valid = s.screening.valid
    ∧ (storeProfile i e s).screening.hotList = s.screening.hotList
    ∧ (storeProfile i e s).screening.history = s.screening.history := ⟨rfl, rfl, rfl, rfl⟩

/-- What a supervisor keeps through a change to an alarm cell. -/
@[simp] theorem sup_modPointAlarms (p : Point) (f : PointAlarms → PointAlarms) (s : State) :
    (modPointAlarms p f s).sup.estopInput = s.sup.estopInput
    ∧ (modPointAlarms p f s).sup.estopLatch = s.sup.estopLatch
    ∧ (modPointAlarms p f s).sup.noticeBlock = s.sup.noticeBlock
    ∧ (modPointAlarms p f s).sup.siteAlarms = s.sup.siteAlarms
    ∧ (modPointAlarms p f s).sup.counters = s.sup.counters
    ∧ (modPointAlarms p f s).sup.snapshots = s.sup.snapshots
    ∧ (modPointAlarms p f s).sup.snapshotTime = s.sup.snapshotTime
    ∧ (modPointAlarms p f s).sup.reportTimer = s.sup.reportTimer := ⟨rfl, rfl, rfl, rfl, rfl, rfl, rfl, rfl⟩

@[simp] theorem sup_modSiteAlarms (f : SiteAlarms → SiteAlarms) (s : State) :
    (modSiteAlarms f s).sup.estopInput = s.sup.estopInput
    ∧ (modSiteAlarms f s).sup.estopLatch = s.sup.estopLatch
    ∧ (modSiteAlarms f s).sup.noticeBlock = s.sup.noticeBlock
    ∧ (modSiteAlarms f s).sup.pointAlarms = s.sup.pointAlarms
    ∧ (modSiteAlarms f s).sup.siteAlarms = f s.sup.siteAlarms
    ∧ (modSiteAlarms f s).sup.counters = s.sup.counters
    ∧ (modSiteAlarms f s).sup.snapshots = s.sup.snapshots
    ∧ (modSiteAlarms f s).sup.snapshotTime = s.sup.snapshotTime
    ∧ (modSiteAlarms f s).sup.reportTimer = s.sup.reportTimer := ⟨rfl, rfl, rfl, rfl, rfl, rfl, rfl, rfl, rfl⟩

@[simp] theorem pointAlarms_get_set (a : PointAlarms) (k : PointAlarm) (c : AlarmCell) : (a.set k c).get k = c := by
  cases k <;> rfl

@[simp] theorem pointAlarms_get_set_ne (a : PointAlarms) (k j : PointAlarm) (c : AlarmCell) (h : j ≠ k) :
    (a.set k c).get j = a.get j := by
  cases k <;> cases j <;> first | rfl | exact absurd rfl h

@[simp] theorem siteAlarms_get_set (a : SiteAlarms) (k : SiteAlarm) (c : AlarmCell) : (a.set k c).get k = c := by
  cases k <;> rfl

@[simp] theorem siteAlarms_get_set_ne (a : SiteAlarms) (k j : SiteAlarm) (c : AlarmCell) (h : j ≠ k) :
    (a.set k c).get j = a.get j := by
  cases k <;> cases j <;> first | rfl | exact absurd rfl h

@[simp] theorem lines_get_set (l : Lines) (r : Product) (x : Line) : (l.set r x).get r = x := by cases r <;> rfl

@[simp] theorem lines_get_set_ne (l : Lines) (r q : Product) (x : Line) (h : q ≠ r) :
    (l.set r x).get q = l.get q := by
  cases r <;> cases q <;> first | rfl | exact absurd rfl h

@[simp] theorem counters_get_set (c : Counters) (k : FaultCounter) (n : Nat) : (c.set k n).get k = n := by
  cases k <;> rfl

@[simp] theorem counters_get_set_ne (c : Counters) (k j : FaultCounter) (n : Nat) (h : j ≠ k) :
    (c.set k n).get j = c.get j := by
  cases k <;> cases j <;> first | rfl | exact absurd rfl h

/-- A reply changes the link's receiver and reply, and no more. -/
@[simp] theorem link_reply (k : Byte) (st : Status) (d : ReplyData) (s : State) :
    (reply k st d s).link = { s.link with receiver := .reply, reply := some (buildReply k st d s) } := rfl

@[simp] theorem link_endBroadcast (s : State) : (endBroadcast s).link = { s.link with receiver := .hunt } := rfl

/-! ### Folds -/

/-- What no step of a fold changes, the fold does not change. -/
theorem foldl_keeps {α β : Type} (g : State → β) (f : State → α → State) (h : ∀ t x, g (f t x) = g t)
    (l : List α) (s : State) : g (l.foldl f s) = g s := by
  induction l generalizing s with
  | nil => rfl
  | cons x l ih => rw [List.foldl_cons, ih, h]

/-- What every step of a fold keeps true, the fold keeps true. -/
theorem foldl_invariant {α : Type} (P : State → Prop) (f : State → α → State) (h : ∀ t x, P t → P (f t x))
    (l : List α) (s : State) (hs : P s) : P (l.foldl f s) := by
  induction l generalizing s with
  | nil => exact hs
  | cons x l ih => exact ih (f s x) (h s x hs)

end Sys2Proof.Machine
end

