-- ==== Sys2Proof/Laws/Frames.lean ====
section
/-! SUPPORT. Laws/Frames.lean: for each shared operation, the fields of the state it leaves as they were (`_keeps`), so
that a proof about a command unfolds none of the operations it calls. A read of a kept field follows by unfolding the
read: `simp only [State.slot, closeValve_keeps]`. -/

namespace Sys2Proof.Machine

open Sys2Proof

/-! ### Folds: what every step of a fold leaves as it was -/

@[simp] theorem foldl_clock {α : Type} (f : State → α → State)
    (h : ∀ t x, (f t x).clock = t.clock) (xs : List α) (s : State) :
    (xs.foldl f s).clock = s.clock := foldl_keeps (fun t => t.clock) f h xs s

@[simp] theorem foldl_site {α : Type} (f : State → α → State)
    (h : ∀ t x, (f t x).site = t.site) (xs : List α) (s : State) :
    (xs.foldl f s).site = s.site := foldl_keeps (fun t => t.site) f h xs s

@[simp] theorem foldl_products {α : Type} (f : State → α → State)
    (h : ∀ t x, (f t x).products = t.products) (xs : List α) (s : State) :
    (xs.foldl f s).products = s.products := foldl_keeps (fun t => t.products) f h xs s

@[simp] theorem foldl_lanes {α : Type} (f : State → α → State)
    (h : ∀ t x, (f t x).lanes = t.lanes) (xs : List α) (s : State) :
    (xs.foldl f s).lanes = s.lanes := foldl_keeps (fun t => t.lanes) f h xs s

@[simp] theorem foldl_screening {α : Type} (f : State → α → State)
    (h : ∀ t x, (f t x).screening = t.screening) (xs : List α) (s : State) :
    (xs.foldl f s).screening = s.screening := foldl_keeps (fun t => t.screening) f h xs s

@[simp] theorem foldl_auth {α : Type} (f : State → α → State)
    (h : ∀ t x, (f t x).auth = t.auth) (xs : List α) (s : State) :
    (xs.foldl f s).auth = s.auth := foldl_keeps (fun t => t.auth) f h xs s

@[simp] theorem foldl_points {α : Type} (f : State → α → State)
    (h : ∀ t x, (f t x).points = t.points) (xs : List α) (s : State) :
    (xs.foldl f s).points = s.points := foldl_keeps (fun t => t.points) f h xs s

@[simp] theorem foldl_pumps {α : Type} (f : State → α → State)
    (h : ∀ t x, (f t x).pumps = t.pumps) (xs : List α) (s : State) :
    (xs.foldl f s).pumps = s.pumps := foldl_keeps (fun t => t.pumps) f h xs s

@[simp] theorem foldl_sup {α : Type} (f : State → α → State)
    (h : ∀ t x, (f t x).sup = t.sup) (xs : List α) (s : State) :
    (xs.foldl f s).sup = s.sup := foldl_keeps (fun t => t.sup) f h xs s

@[simp] theorem foldl_cal {α : Type} (f : State → α → State)
    (h : ∀ t x, (f t x).cal = t.cal) (xs : List α) (s : State) :
    (xs.foldl f s).cal = s.cal := foldl_keeps (fun t => t.cal) f h xs s

@[simp] theorem foldl_link {α : Type} (f : State → α → State)
    (h : ∀ t x, (f t x).link = t.link) (xs : List α) (s : State) :
    (xs.foldl f s).link = s.link := foldl_keeps (fun t => t.link) f h xs s

@[simp] theorem foldl_pending {α : Type} (f : State → α → State)
    (h : ∀ t x, (f t x).pending = t.pending) (xs : List α) (s : State) :
    (xs.foldl f s).pending = s.pending := foldl_keeps (fun t => t.pending) f h xs s

@[simp] theorem foldl_link_receiver {α : Type} (f : State → α → State)
    (h : ∀ t x, (f t x).link.receiver = t.link.receiver) (xs : List α) (s : State) :
    (xs.foldl f s).link.receiver = s.link.receiver := foldl_keeps (fun t => t.link.receiver) f h xs s

@[simp] theorem foldl_link_gap {α : Type} (f : State → α → State)
    (h : ∀ t x, (f t x).link.gap = t.link.gap) (xs : List α) (s : State) :
    (xs.foldl f s).link.gap = s.link.gap := foldl_keeps (fun t => t.link.gap) f h xs s

@[simp] theorem foldl_link_station {α : Type} (f : State → α → State)
    (h : ∀ t x, (f t x).link.station = t.link.station) (xs : List α) (s : State) :
    (xs.foldl f s).link.station = s.link.station := foldl_keeps (fun t => t.link.station) f h xs s

@[simp] theorem foldl_link_rate {α : Type} (f : State → α → State)
    (h : ∀ t x, (f t x).link.rate = t.link.rate) (xs : List α) (s : State) :
    (xs.foldl f s).link.rate = s.link.rate := foldl_keeps (fun t => t.link.rate) f h xs s

@[simp] theorem foldl_link_pinAddress {α : Type} (f : State → α → State)
    (h : ∀ t x, (f t x).link.pinAddress = t.link.pinAddress) (xs : List α) (s : State) :
    (xs.foldl f s).link.pinAddress = s.link.pinAddress := foldl_keeps (fun t => t.link.pinAddress) f h xs s

@[simp] theorem foldl_link_pinRate {α : Type} (f : State → α → State)
    (h : ∀ t x, (f t x).link.pinRate = t.link.pinRate) (xs : List α) (s : State) :
    (xs.foldl f s).link.pinRate = s.link.pinRate := foldl_keeps (fun t => t.link.pinRate) f h xs s

@[simp] theorem foldl_link_reply {α : Type} (f : State → α → State)
    (h : ∀ t x, (f t x).link.reply = t.link.reply) (xs : List α) (s : State) :
    (xs.foldl f s).link.reply = s.link.reply := foldl_keeps (fun t => t.link.reply) f h xs s

@[simp] theorem foldl_link_lastTaken {α : Type} (f : State → α → State)
    (h : ∀ t x, (f t x).link.lastTaken = t.link.lastTaken) (xs : List α) (s : State) :
    (xs.foldl f s).link.lastTaken = s.link.lastTaken := foldl_keeps (fun t => t.link.lastTaken) f h xs s

@[simp] theorem foldl_link_acquirerUp {α : Type} (f : State → α → State)
    (h : ∀ t x, (f t x).link.acquirerUp = t.link.acquirerUp) (xs : List α) (s : State) :
    (xs.foldl f s).link.acquirerUp = s.link.acquirerUp := foldl_keeps (fun t => t.link.acquirerUp) f h xs s

@[simp] theorem foldl_sup_estopInput {α : Type} (f : State → α → State)
    (h : ∀ t x, (f t x).sup.estopInput = t.sup.estopInput) (xs : List α) (s : State) :
    (xs.foldl f s).sup.estopInput = s.sup.estopInput := foldl_keeps (fun t => t.sup.estopInput) f h xs s

@[simp] theorem foldl_sup_estopLatch {α : Type} (f : State → α → State)
    (h : ∀ t x, (f t x).sup.estopLatch = t.sup.estopLatch) (xs : List α) (s : State) :
    (xs.foldl f s).sup.estopLatch = s.sup.estopLatch := foldl_keeps (fun t => t.sup.estopLatch) f h xs s

@[simp] theorem foldl_sup_noticeBlock {α : Type} (f : State → α → State)
    (h : ∀ t x, (f t x).sup.noticeBlock = t.sup.noticeBlock) (xs : List α) (s : State) :
    (xs.foldl f s).sup.noticeBlock = s.sup.noticeBlock := foldl_keeps (fun t => t.sup.noticeBlock) f h xs s

@[simp] theorem foldl_sup_snapshots {α : Type} (f : State → α → State)
    (h : ∀ t x, (f t x).sup.snapshots = t.sup.snapshots) (xs : List α) (s : State) :
    (xs.foldl f s).sup.snapshots = s.sup.snapshots := foldl_keeps (fun t => t.sup.snapshots) f h xs s

@[simp] theorem foldl_sup_snapshotTime {α : Type} (f : State → α → State)
    (h : ∀ t x, (f t x).sup.snapshotTime = t.sup.snapshotTime) (xs : List α) (s : State) :
    (xs.foldl f s).sup.snapshotTime = s.sup.snapshotTime := foldl_keeps (fun t => t.sup.snapshotTime) f h xs s

@[simp] theorem foldl_sup_reportTimer {α : Type} (f : State → α → State)
    (h : ∀ t x, (f t x).sup.reportTimer = t.sup.reportTimer) (xs : List α) (s : State) :
    (xs.foldl f s).sup.reportTimer = s.sup.reportTimer := foldl_keeps (fun t => t.sup.reportTimer) f h xs s

@[simp] theorem foldl_auth_serial {α : Type} (f : State → α → State)
    (h : ∀ t x, (f t x).auth.serial = t.auth.serial) (xs : List α) (s : State) :
    (xs.foldl f s).auth.serial = s.auth.serial := foldl_keeps (fun t => t.auth.serial) f h xs s

@[simp] theorem foldl_auth_sales {α : Type} (f : State → α → State)
    (h : ∀ t x, (f t x).auth.sales = t.auth.sales) (xs : List α) (s : State) :
    (xs.foldl f s).auth.sales = s.auth.sales := foldl_keeps (fun t => t.auth.sales) f h xs s

@[simp] theorem foldl_screening_profiles {α : Type} (f : State → α → State)
    (h : ∀ t x, (f t x).screening.profiles = t.screening.profiles) (xs : List α) (s : State) :
    (xs.foldl f s).screening.profiles = s.screening.profiles := foldl_keeps (fun t => t.screening.profiles) f h xs s

@[simp] theorem foldl_screening_valid {α : Type} (f : State → α → State)
    (h : ∀ t x, (f t x).screening.valid = t.screening.valid) (xs : List α) (s : State) :
    (xs.foldl f s).screening.valid = s.screening.valid := foldl_keeps (fun t => t.screening.valid) f h xs s

@[simp] theorem foldl_screening_hotList {α : Type} (f : State → α → State)
    (h : ∀ t x, (f t x).screening.hotList = t.screening.hotList) (xs : List α) (s : State) :
    (xs.foldl f s).screening.hotList = s.screening.hotList := foldl_keeps (fun t => t.screening.hotList) f h xs s

/-! ### Notices, alarms and counts -/

@[simp] theorem pushNotice_keeps (b : NoticeBody) (s : State) :
    (pushNotice b s).clock = s.clock ∧ (pushNotice b s).site = s.site
    ∧ (pushNotice b s).products = s.products ∧ (pushNotice b s).lanes = s.lanes
    ∧ (pushNotice b s).screening = s.screening ∧ (pushNotice b s).auth = s.auth
    ∧ (pushNotice b s).points = s.points ∧ (pushNotice b s).pumps = s.pumps ∧ (pushNotice b s).sup = s.sup
    ∧ (pushNotice b s).cal = s.cal ∧ (pushNotice b s).link.receiver = s.link.receiver
    ∧ (pushNotice b s).link.gap = s.link.gap ∧ (pushNotice b s).link.station = s.link.station
    ∧ (pushNotice b s).link.rate = s.link.rate ∧ (pushNotice b s).link.pinAddress = s.link.pinAddress
    ∧ (pushNotice b s).link.pinRate = s.link.pinRate ∧ (pushNotice b s).link.reply = s.link.reply
    ∧ (pushNotice b s).link.lastTaken = s.link.lastTaken
    ∧ (pushNotice b s).link.acquirerUp = s.link.acquirerUp ∧ (pushNotice b s).pending = s.pending := by
  unfold pushNotice; split <;> simp

@[simp] theorem presentPoint_keeps (a : PointAlarm) (p : Point) (up : Bool) (s : State) :
    (presentPoint a p up s).clock = s.clock ∧ (presentPoint a p up s).site = s.site
    ∧ (presentPoint a p up s).products = s.products ∧ (presentPoint a p up s).lanes = s.lanes
    ∧ (presentPoint a p up s).screening = s.screening ∧ (presentPoint a p up s).auth = s.auth
    ∧ (presentPoint a p up s).points = s.points ∧ (presentPoint a p up s).pumps = s.pumps
    ∧ (presentPoint a p up s).sup.estopInput = s.sup.estopInput
    ∧ (presentPoint a p up s).sup.estopLatch = s.sup.estopLatch
    ∧ (presentPoint a p up s).sup.noticeBlock = s.sup.noticeBlock
    ∧ (presentPoint a p up s).sup.snapshots = s.sup.snapshots
    ∧ (presentPoint a p up s).sup.snapshotTime = s.sup.snapshotTime
    ∧ (presentPoint a p up s).sup.reportTimer = s.sup.reportTimer ∧ (presentPoint a p up s).cal = s.cal
    ∧ (presentPoint a p up s).link.receiver = s.link.receiver
    ∧ (presentPoint a p up s).link.gap = s.link.gap ∧ (presentPoint a p up s).link.station = s.link.station
    ∧ (presentPoint a p up s).link.rate = s.link.rate
    ∧ (presentPoint a p up s).link.pinAddress = s.link.pinAddress
    ∧ (presentPoint a p up s).link.pinRate = s.link.pinRate
    ∧ (presentPoint a p up s).link.reply = s.link.reply
    ∧ (presentPoint a p up s).link.lastTaken = s.link.lastTaken
    ∧ (presentPoint a p up s).link.acquirerUp = s.link.acquirerUp
    ∧ (presentPoint a p up s).pending = s.pending := by
  and_intros <;> (simp only [presentPoint]; repeat' split) <;> simp

@[simp] theorem presentSite_keeps (a : SiteAlarm) (up : Bool) (s : State) :
    (presentSite a up s).clock = s.clock ∧ (presentSite a up s).site = s.site
    ∧ (presentSite a up s).products = s.products ∧ (presentSite a up s).lanes = s.lanes
    ∧ (presentSite a up s).screening = s.screening ∧ (presentSite a up s).auth = s.auth
    ∧ (presentSite a up s).points = s.points ∧ (presentSite a up s).pumps = s.pumps
    ∧ (presentSite a up s).sup.estopInput = s.sup.estopInput
    ∧ (presentSite a up s).sup.estopLatch = s.sup.estopLatch
    ∧ (presentSite a up s).sup.noticeBlock = s.sup.noticeBlock
    ∧ (presentSite a up s).sup.snapshots = s.sup.snapshots
    ∧ (presentSite a up s).sup.snapshotTime = s.sup.snapshotTime
    ∧ (presentSite a up s).sup.reportTimer = s.sup.reportTimer ∧ (presentSite a up s).cal = s.cal
    ∧ (presentSite a up s).link.receiver = s.link.receiver ∧ (presentSite a up s).link.gap = s.link.gap
    ∧ (presentSite a up s).link.station = s.link.station ∧ (presentSite a up s).link.rate = s.link.rate
    ∧ (presentSite a up s).link.pinAddress = s.link.pinAddress
    ∧ (presentSite a up s).link.pinRate = s.link.pinRate ∧ (presentSite a up s).link.reply = s.link.reply
    ∧ (presentSite a up s).link.lastTaken = s.link.lastTaken
    ∧ (presentSite a up s).link.acquirerUp = s.link.acquirerUp ∧ (presentSite a up s).pending = s.pending := by
  and_intros <;> (simp only [presentSite]; repeat' split) <;> simp

@[simp] theorem presentEstop_keeps (up : Bool) (m : Nat) (s : State) :
    (presentEstop up m s).clock = s.clock ∧ (presentEstop up m s).site = s.site
    ∧ (presentEstop up m s).products = s.products ∧ (presentEstop up m s).lanes = s.lanes
    ∧ (presentEstop up m s).screening = s.screening ∧ (presentEstop up m s).auth = s.auth
    ∧ (presentEstop up m s).points = s.points ∧ (presentEstop up m s).pumps = s.pumps
    ∧ (presentEstop up m s).sup.estopInput = s.sup.estopInput
    ∧ (presentEstop up m s).sup.estopLatch = s.sup.estopLatch
    ∧ (presentEstop up m s).sup.snapshots = s.sup.snapshots
    ∧ (presentEstop up m s).sup.snapshotTime = s.sup.snapshotTime
    ∧ (presentEstop up m s).sup.reportTimer = s.sup.reportTimer ∧ (presentEstop up m s).cal = s.cal
    ∧ (presentEstop up m s).link.receiver = s.link.receiver ∧ (presentEstop up m s).link.gap = s.link.gap
    ∧ (presentEstop up m s).link.station = s.link.station ∧ (presentEstop up m s).link.rate = s.link.rate
    ∧ (presentEstop up m s).link.pinAddress = s.link.pinAddress
    ∧ (presentEstop up m s).link.pinRate = s.link.pinRate ∧ (presentEstop up m s).link.reply = s.link.reply
    ∧ (presentEstop up m s).link.lastTaken = s.link.lastTaken
    ∧ (presentEstop up m s).link.acquirerUp = s.link.acquirerUp ∧ (presentEstop up m s).pending = s.pending := by
  and_intros <;> (simp only [presentEstop]; repeat' split) <;> simp

@[simp] theorem countFault_keeps (a : FaultCounter) (p : Point) (s : State) :
    (countFault a p s).clock = s.clock ∧ (countFault a p s).site = s.site
    ∧ (countFault a p s).products = s.products ∧ (countFault a p s).lanes = s.lanes
    ∧ (countFault a p s).screening = s.screening ∧ (countFault a p s).auth = s.auth
    ∧ (countFault a p s).points = s.points ∧ (countFault a p s).pumps = s.pumps
    ∧ (countFault a p s).sup.estopInput = s.sup.estopInput
    ∧ (countFault a p s).sup.estopLatch = s.sup.estopLatch
    ∧ (countFault a p s).sup.noticeBlock = s.sup.noticeBlock
    ∧ (countFault a p s).sup.snapshots = s.sup.snapshots
    ∧ (countFault a p s).sup.snapshotTime = s.sup.snapshotTime
    ∧ (countFault a p s).sup.reportTimer = s.sup.reportTimer ∧ (countFault a p s).cal = s.cal
    ∧ (countFault a p s).link.receiver = s.link.receiver ∧ (countFault a p s).link.gap = s.link.gap
    ∧ (countFault a p s).link.station = s.link.station ∧ (countFault a p s).link.rate = s.link.rate
    ∧ (countFault a p s).link.pinAddress = s.link.pinAddress
    ∧ (countFault a p s).link.pinRate = s.link.pinRate ∧ (countFault a p s).link.reply = s.link.reply
    ∧ (countFault a p s).link.lastTaken = s.link.lastTaken
    ∧ (countFault a p s).link.acquirerUp = s.link.acquirerUp ∧ (countFault a p s).pending = s.pending := by
  and_intros <;> (simp only [countFault]; repeat' split) <;> simp

/-! ### Valves and demand -/

@[simp] theorem resetSettle_keeps (p : Point) (s : State) :
    (resetSettle p s).clock = s.clock ∧ (resetSettle p s).site = s.site
    ∧ (resetSettle p s).products = s.products ∧ (resetSettle p s).lanes = s.lanes
    ∧ (resetSettle p s).screening = s.screening ∧ (resetSettle p s).auth = s.auth
    ∧ (resetSettle p s).pumps = s.pumps ∧ (resetSettle p s).sup = s.sup ∧ (resetSettle p s).cal = s.cal
    ∧ (resetSettle p s).link = s.link ∧ (resetSettle p s).pending = s.pending := by
  and_intros <;> (simp only [resetSettle]; repeat' split) <;> simp

@[simp] theorem enterRunOn_keeps (k : Pump) (s : State) :
    (enterRunOn k s).clock = s.clock ∧ (enterRunOn k s).site = s.site
    ∧ (enterRunOn k s).products = s.products ∧ (enterRunOn k s).lanes = s.lanes
    ∧ (enterRunOn k s).screening = s.screening ∧ (enterRunOn k s).auth = s.auth
    ∧ (enterRunOn k s).points = s.points ∧ (enterRunOn k s).sup = s.sup ∧ (enterRunOn k s).cal = s.cal
    ∧ (enterRunOn k s).link.receiver = s.link.receiver ∧ (enterRunOn k s).link.gap = s.link.gap
    ∧ (enterRunOn k s).link.station = s.link.station ∧ (enterRunOn k s).link.rate = s.link.rate
    ∧ (enterRunOn k s).link.pinAddress = s.link.pinAddress ∧ (enterRunOn k s).link.pinRate = s.link.pinRate
    ∧ (enterRunOn k s).link.reply = s.link.reply ∧ (enterRunOn k s).link.lastTaken = s.link.lastTaken
    ∧ (enterRunOn k s).link.acquirerUp = s.link.acquirerUp ∧ (enterRunOn k s).pending = s.pending := by
  and_intros <;> (simp only [enterRunOn]; repeat' split) <;> simp

@[simp] theorem demandLeave_keeps (p : Point) (s : State) :
    (demandLeave p s).clock = s.clock ∧ (demandLeave p s).site = s.site
    ∧ (demandLeave p s).products = s.products ∧ (demandLeave p s).lanes = s.lanes
    ∧ (demandLeave p s).screening = s.screening ∧ (demandLeave p s).auth = s.auth
    ∧ (demandLeave p s).points = s.points ∧ (demandLeave p s).sup = s.sup ∧ (demandLeave p s).cal = s.cal
    ∧ (demandLeave p s).link.receiver = s.link.receiver ∧ (demandLeave p s).link.gap = s.link.gap
    ∧ (demandLeave p s).link.station = s.link.station ∧ (demandLeave p s).link.rate = s.link.rate
    ∧ (demandLeave p s).link.pinAddress = s.link.pinAddress
    ∧ (demandLeave p s).link.pinRate = s.link.pinRate ∧ (demandLeave p s).link.reply = s.link.reply
    ∧ (demandLeave p s).link.lastTaken = s.link.lastTaken
    ∧ (demandLeave p s).link.acquirerUp = s.link.acquirerUp ∧ (demandLeave p s).pending = s.pending := by
  and_intros <;> (simp only [demandLeave]; repeat' split) <;> simp

@[simp] theorem closeValve_keeps (p : Point) (s : State) :
    (closeValve p s).clock = s.clock ∧ (closeValve p s).site = s.site
    ∧ (closeValve p s).products = s.products ∧ (closeValve p s).lanes = s.lanes
    ∧ (closeValve p s).screening = s.screening ∧ (closeValve p s).auth = s.auth
    ∧ (closeValve p s).sup = s.sup ∧ (closeValve p s).cal = s.cal
    ∧ (closeValve p s).link.receiver = s.link.receiver ∧ (closeValve p s).link.gap = s.link.gap
    ∧ (closeValve p s).link.station = s.link.station ∧ (closeValve p s).link.rate = s.link.rate
    ∧ (closeValve p s).link.pinAddress = s.link.pinAddress ∧ (closeValve p s).link.pinRate = s.link.pinRate
    ∧ (closeValve p s).link.reply = s.link.reply ∧ (closeValve p s).link.lastTaken = s.link.lastTaken
    ∧ (closeValve p s).link.acquirerUp = s.link.acquirerUp ∧ (closeValve p s).pending = s.pending := by
  and_intros <;> (simp only [closeValve]; repeat' split) <;> simp

@[simp] theorem enterFinished_keeps (p : Point) (r : EndReason) (s : State) :
    (enterFinished p r s).clock = s.clock ∧ (enterFinished p r s).site = s.site
    ∧ (enterFinished p r s).products = s.products ∧ (enterFinished p r s).lanes = s.lanes
    ∧ (enterFinished p r s).screening = s.screening ∧ (enterFinished p r s).auth = s.auth
    ∧ (enterFinished p r s).sup = s.sup ∧ (enterFinished p r s).cal = s.cal
    ∧ (enterFinished p r s).link.receiver = s.link.receiver ∧ (enterFinished p r s).link.gap = s.link.gap
    ∧ (enterFinished p r s).link.station = s.link.station ∧ (enterFinished p r s).link.rate = s.link.rate
    ∧ (enterFinished p r s).link.pinAddress = s.link.pinAddress
    ∧ (enterFinished p r s).link.pinRate = s.link.pinRate ∧ (enterFinished p r s).link.reply = s.link.reply
    ∧ (enterFinished p r s).link.lastTaken = s.link.lastTaken
    ∧ (enterFinished p r s).link.acquirerUp = s.link.acquirerUp ∧ (enterFinished p r s).pending = s.pending := by
  and_intros <;> (simp only [enterFinished]; repeat' split) <;> simp

@[simp] theorem closeFor_keeps (p : Point) (r : EndReason) (s : State) :
    (closeFor p r s).clock = s.clock ∧ (closeFor p r s).site = s.site
    ∧ (closeFor p r s).products = s.products ∧ (closeFor p r s).lanes = s.lanes
    ∧ (closeFor p r s).screening = s.screening ∧ (closeFor p r s).auth = s.auth
    ∧ (closeFor p r s).sup = s.sup ∧ (closeFor p r s).cal = s.cal
    ∧ (closeFor p r s).link.receiver = s.link.receiver ∧ (closeFor p r s).link.gap = s.link.gap
    ∧ (closeFor p r s).link.station = s.link.station ∧ (closeFor p r s).link.rate = s.link.rate
    ∧ (closeFor p r s).link.pinAddress = s.link.pinAddress ∧ (closeFor p r s).link.pinRate = s.link.pinRate
    ∧ (closeFor p r s).link.reply = s.link.reply ∧ (closeFor p r s).link.lastTaken = s.link.lastTaken
    ∧ (closeFor p r s).link.acquirerUp = s.link.acquirerUp ∧ (closeFor p r s).pending = s.pending := by
  and_intros <;> (simp only [closeFor]; repeat' split) <;> simp

@[simp] theorem enterSuspended_keeps (p : Point) (r : SuspendCause) (s : State) :
    (enterSuspended p r s).clock = s.clock ∧ (enterSuspended p r s).site = s.site
    ∧ (enterSuspended p r s).products = s.products ∧ (enterSuspended p r s).lanes = s.lanes
    ∧ (enterSuspended p r s).screening = s.screening ∧ (enterSuspended p r s).auth = s.auth
    ∧ (enterSuspended p r s).sup = s.sup ∧ (enterSuspended p r s).cal = s.cal
    ∧ (enterSuspended p r s).link.receiver = s.link.receiver ∧ (enterSuspended p r s).link.gap = s.link.gap
    ∧ (enterSuspended p r s).link.station = s.link.station ∧ (enterSuspended p r s).link.rate = s.link.rate
    ∧ (enterSuspended p r s).link.pinAddress = s.link.pinAddress
    ∧ (enterSuspended p r s).link.pinRate = s.link.pinRate
    ∧ (enterSuspended p r s).link.reply = s.link.reply
    ∧ (enterSuspended p r s).link.lastTaken = s.link.lastTaken
    ∧ (enterSuspended p r s).link.acquirerUp = s.link.acquirerUp
    ∧ (enterSuspended p r s).pending = s.pending := by
  and_intros <;> (simp only [enterSuspended]; repeat' split) <;> simp

@[simp] theorem enterStopping_keeps (p : Point) (r : EndReason) (s : State) :
    (enterStopping p r s).clock = s.clock ∧ (enterStopping p r s).site = s.site
    ∧ (enterStopping p r s).products = s.products ∧ (enterStopping p r s).lanes = s.lanes
    ∧ (enterStopping p r s).screening = s.screening ∧ (enterStopping p r s).auth = s.auth
    ∧ (enterStopping p r s).pumps = s.pumps ∧ (enterStopping p r s).sup = s.sup
    ∧ (enterStopping p r s).cal = s.cal ∧ (enterStopping p r s).link = s.link
    ∧ (enterStopping p r s).pending = s.pending := by
  and_intros <;> (simp only [enterStopping]; repeat' split) <;> simp

@[simp] theorem softStopPoint_keeps (p : Point) (r : EndReason) (s : State) :
    (softStopPoint p r s).clock = s.clock ∧ (softStopPoint p r s).site = s.site
    ∧ (softStopPoint p r s).products = s.products ∧ (softStopPoint p r s).lanes = s.lanes
    ∧ (softStopPoint p r s).screening = s.screening ∧ (softStopPoint p r s).auth = s.auth
    ∧ (softStopPoint p r s).sup = s.sup ∧ (softStopPoint p r s).cal = s.cal
    ∧ (softStopPoint p r s).link.receiver = s.link.receiver ∧ (softStopPoint p r s).link.gap = s.link.gap
    ∧ (softStopPoint p r s).link.station = s.link.station ∧ (softStopPoint p r s).link.rate = s.link.rate
    ∧ (softStopPoint p r s).link.pinAddress = s.link.pinAddress
    ∧ (softStopPoint p r s).link.pinRate = s.link.pinRate ∧ (softStopPoint p r s).link.reply = s.link.reply
    ∧ (softStopPoint p r s).link.lastTaken = s.link.lastTaken
    ∧ (softStopPoint p r s).link.acquirerUp = s.link.acquirerUp ∧ (softStopPoint p r s).pending = s.pending := by
  and_intros <;> (simp only [softStopPoint]; repeat' split) <;> simp

@[simp] theorem enterFast_keeps (p : Point) (s : State) :
    (enterFast p s).clock = s.clock ∧ (enterFast p s).site = s.site ∧ (enterFast p s).products = s.products
    ∧ (enterFast p s).lanes = s.lanes ∧ (enterFast p s).screening = s.screening
    ∧ (enterFast p s).auth = s.auth ∧ (enterFast p s).pumps = s.pumps ∧ (enterFast p s).sup = s.sup
    ∧ (enterFast p s).cal = s.cal ∧ (enterFast p s).link = s.link ∧ (enterFast p s).pending = s.pending := by
  and_intros <;> (simp only [enterFast]; repeat' split) <;> simp

@[simp] theorem enterSlowDown_keeps (p : Point) (s : State) :
    (enterSlowDown p s).clock = s.clock ∧ (enterSlowDown p s).site = s.site
    ∧ (enterSlowDown p s).products = s.products ∧ (enterSlowDown p s).lanes = s.lanes
    ∧ (enterSlowDown p s).screening = s.screening ∧ (enterSlowDown p s).auth = s.auth
    ∧ (enterSlowDown p s).pumps = s.pumps ∧ (enterSlowDown p s).sup = s.sup
    ∧ (enterSlowDown p s).cal = s.cal ∧ (enterSlowDown p s).link = s.link
    ∧ (enterSlowDown p s).pending = s.pending := by
  and_intros <;> (simp only [enterSlowDown]; repeat' split) <;> simp

@[simp] theorem setFaultLatch_keeps (p : Point) (s : State) :
    (setFaultLatch p s).clock = s.clock ∧ (setFaultLatch p s).site = s.site
    ∧ (setFaultLatch p s).products = s.products ∧ (setFaultLatch p s).lanes = s.lanes
    ∧ (setFaultLatch p s).screening = s.screening ∧ (setFaultLatch p s).auth = s.auth
    ∧ (setFaultLatch p s).pumps = s.pumps ∧ (setFaultLatch p s).sup = s.sup
    ∧ (setFaultLatch p s).cal = s.cal ∧ (setFaultLatch p s).link = s.link
    ∧ (setFaultLatch p s).pending = s.pending := by
  and_intros <;> (simp only [setFaultLatch]; repeat' split) <;> simp

@[simp] theorem enterProvingDrain_keeps (p : Point) (r : ProveEnd) (s : State) :
    (enterProvingDrain p r s).clock = s.clock ∧ (enterProvingDrain p r s).site = s.site
    ∧ (enterProvingDrain p r s).products = s.products ∧ (enterProvingDrain p r s).lanes = s.lanes
    ∧ (enterProvingDrain p r s).screening = s.screening ∧ (enterProvingDrain p r s).auth = s.auth
    ∧ (enterProvingDrain p r s).sup = s.sup ∧ (enterProvingDrain p r s).cal = s.cal
    ∧ (enterProvingDrain p r s).link.receiver = s.link.receiver
    ∧ (enterProvingDrain p r s).link.gap = s.link.gap
    ∧ (enterProvingDrain p r s).link.station = s.link.station
    ∧ (enterProvingDrain p r s).link.rate = s.link.rate
    ∧ (enterProvingDrain p r s).link.pinAddress = s.link.pinAddress
    ∧ (enterProvingDrain p r s).link.pinRate = s.link.pinRate
    ∧ (enterProvingDrain p r s).link.reply = s.link.reply
    ∧ (enterProvingDrain p r s).link.lastTaken = s.link.lastTaken
    ∧ (enterProvingDrain p r s).link.acquirerUp = s.link.acquirerUp
    ∧ (enterProvingDrain p r s).pending = s.pending := by
  and_intros <;> (simp only [enterProvingDrain]; repeat' split) <;> simp

@[simp] theorem enterProvingDone_keeps (p : Point) (r : Option ProveEnd) (s : State) :
    (enterProvingDone p r s).clock = s.clock ∧ (enterProvingDone p r s).site = s.site
    ∧ (enterProvingDone p r s).products = s.products ∧ (enterProvingDone p r s).lanes = s.lanes
    ∧ (enterProvingDone p r s).screening = s.screening ∧ (enterProvingDone p r s).auth = s.auth
    ∧ (enterProvingDone p r s).sup = s.sup ∧ (enterProvingDone p r s).cal = s.cal
    ∧ (enterProvingDone p r s).link.receiver = s.link.receiver
    ∧ (enterProvingDone p r s).link.gap = s.link.gap
    ∧ (enterProvingDone p r s).link.station = s.link.station
    ∧ (enterProvingDone p r s).link.rate = s.link.rate
    ∧ (enterProvingDone p r s).link.pinAddress = s.link.pinAddress
    ∧ (enterProvingDone p r s).link.pinRate = s.link.pinRate
    ∧ (enterProvingDone p r s).link.reply = s.link.reply
    ∧ (enterProvingDone p r s).link.lastTaken = s.link.lastTaken
    ∧ (enterProvingDone p r s).link.acquirerUp = s.link.acquirerUp
    ∧ (enterProvingDone p r s).pending = s.pending := by
  and_intros <;> (simp only [enterProvingDone]; repeat' split) <;> simp

@[simp] theorem enterProvingTail_keeps (p : Point) (r : ProveEnd) (s : State) :
    (enterProvingTail p r s).clock = s.clock ∧ (enterProvingTail p r s).site = s.site
    ∧ (enterProvingTail p r s).products = s.products ∧ (enterProvingTail p r s).lanes = s.lanes
    ∧ (enterProvingTail p r s).screening = s.screening ∧ (enterProvingTail p r s).auth = s.auth
    ∧ (enterProvingTail p r s).pumps = s.pumps ∧ (enterProvingTail p r s).sup = s.sup
    ∧ (enterProvingTail p r s).cal = s.cal ∧ (enterProvingTail p r s).link = s.link
    ∧ (enterProvingTail p r s).pending = s.pending := by
  and_intros <;> (simp only [enterProvingTail]; repeat' split) <;> simp

@[simp] theorem closeRunFor_keeps (p : Point) (r : ProveEnd) (s : State) :
    (closeRunFor p r s).clock = s.clock ∧ (closeRunFor p r s).site = s.site
    ∧ (closeRunFor p r s).products = s.products ∧ (closeRunFor p r s).lanes = s.lanes
    ∧ (closeRunFor p r s).screening = s.screening ∧ (closeRunFor p r s).auth = s.auth
    ∧ (closeRunFor p r s).sup = s.sup ∧ (closeRunFor p r s).cal = s.cal
    ∧ (closeRunFor p r s).link.receiver = s.link.receiver ∧ (closeRunFor p r s).link.gap = s.link.gap
    ∧ (closeRunFor p r s).link.station = s.link.station ∧ (closeRunFor p r s).link.rate = s.link.rate
    ∧ (closeRunFor p r s).link.pinAddress = s.link.pinAddress
    ∧ (closeRunFor p r s).link.pinRate = s.link.pinRate ∧ (closeRunFor p r s).link.reply = s.link.reply
    ∧ (closeRunFor p r s).link.lastTaken = s.link.lastTaken
    ∧ (closeRunFor p r s).link.acquirerUp = s.link.acquirerUp ∧ (closeRunFor p r s).pending = s.pending := by
  and_intros <;> (simp only [closeRunFor]; repeat' split) <;> simp

/-! ### Lines -/

@[simp] theorem closeAheadPoint_keeps (m : Nat) (p : Point) (s : State) :
    (closeAheadPoint m p s).clock = s.clock ∧ (closeAheadPoint m p s).site = s.site
    ∧ (closeAheadPoint m p s).products = s.products ∧ (closeAheadPoint m p s).lanes = s.lanes
    ∧ (closeAheadPoint m p s).screening = s.screening ∧ (closeAheadPoint m p s).auth = s.auth
    ∧ (closeAheadPoint m p s).sup = s.sup ∧ (closeAheadPoint m p s).cal = s.cal
    ∧ (closeAheadPoint m p s).link.receiver = s.link.receiver
    ∧ (closeAheadPoint m p s).link.gap = s.link.gap ∧ (closeAheadPoint m p s).link.station = s.link.station
    ∧ (closeAheadPoint m p s).link.rate = s.link.rate
    ∧ (closeAheadPoint m p s).link.pinAddress = s.link.pinAddress
    ∧ (closeAheadPoint m p s).link.pinRate = s.link.pinRate
    ∧ (closeAheadPoint m p s).link.reply = s.link.reply
    ∧ (closeAheadPoint m p s).link.lastTaken = s.link.lastTaken
    ∧ (closeAheadPoint m p s).link.acquirerUp = s.link.acquirerUp
    ∧ (closeAheadPoint m p s).pending = s.pending := by
  and_intros <;> (simp only [closeAheadPoint]; repeat' split) <;> simp

@[simp] theorem slowDownPoint_keeps (m : Nat) (p : Point) (s : State) :
    (slowDownPoint m p s).clock = s.clock ∧ (slowDownPoint m p s).site = s.site
    ∧ (slowDownPoint m p s).products = s.products ∧ (slowDownPoint m p s).lanes = s.lanes
    ∧ (slowDownPoint m p s).screening = s.screening ∧ (slowDownPoint m p s).auth = s.auth
    ∧ (slowDownPoint m p s).pumps = s.pumps ∧ (slowDownPoint m p s).sup = s.sup
    ∧ (slowDownPoint m p s).cal = s.cal ∧ (slowDownPoint m p s).link = s.link
    ∧ (slowDownPoint m p s).pending = s.pending := by
  and_intros <;> (simp only [slowDownPoint]; repeat' split) <;> simp

@[simp] theorem evaluateLine_keeps (k : Slot) (r : Product) (s : State) :
    (evaluateLine k r s).clock = s.clock ∧ (evaluateLine k r s).site = s.site
    ∧ (evaluateLine k r s).products = s.products ∧ (evaluateLine k r s).lanes = s.lanes
    ∧ (evaluateLine k r s).screening = s.screening ∧ (evaluateLine k r s).auth = s.auth
    ∧ (evaluateLine k r s).sup = s.sup ∧ (evaluateLine k r s).cal = s.cal
    ∧ (evaluateLine k r s).link.receiver = s.link.receiver ∧ (evaluateLine k r s).link.gap = s.link.gap
    ∧ (evaluateLine k r s).link.station = s.link.station ∧ (evaluateLine k r s).link.rate = s.link.rate
    ∧ (evaluateLine k r s).link.pinAddress = s.link.pinAddress
    ∧ (evaluateLine k r s).link.pinRate = s.link.pinRate ∧ (evaluateLine k r s).link.reply = s.link.reply
    ∧ (evaluateLine k r s).link.lastTaken = s.link.lastTaken
    ∧ (evaluateLine k r s).link.acquirerUp = s.link.acquirerUp ∧ (evaluateLine k r s).pending = s.pending := by
  and_intros <;> (simp only [evaluateLine]; repeat' split) <;> simp

@[simp] theorem recomputeAndEvaluate_keeps (k : Slot) (s : State) :
    (recomputeAndEvaluate k s).clock = s.clock ∧ (recomputeAndEvaluate k s).site = s.site
    ∧ (recomputeAndEvaluate k s).products = s.products ∧ (recomputeAndEvaluate k s).lanes = s.lanes
    ∧ (recomputeAndEvaluate k s).screening = s.screening
    ∧ (recomputeAndEvaluate k s).auth.serial = s.auth.serial
    ∧ (recomputeAndEvaluate k s).auth.sales = s.auth.sales ∧ (recomputeAndEvaluate k s).sup = s.sup
    ∧ (recomputeAndEvaluate k s).cal = s.cal ∧ (recomputeAndEvaluate k s).link.receiver = s.link.receiver
    ∧ (recomputeAndEvaluate k s).link.gap = s.link.gap
    ∧ (recomputeAndEvaluate k s).link.station = s.link.station
    ∧ (recomputeAndEvaluate k s).link.rate = s.link.rate
    ∧ (recomputeAndEvaluate k s).link.pinAddress = s.link.pinAddress
    ∧ (recomputeAndEvaluate k s).link.pinRate = s.link.pinRate
    ∧ (recomputeAndEvaluate k s).link.reply = s.link.reply
    ∧ (recomputeAndEvaluate k s).link.lastTaken = s.link.lastTaken
    ∧ (recomputeAndEvaluate k s).link.acquirerUp = s.link.acquirerUp
    ∧ (recomputeAndEvaluate k s).pending = s.pending := by
  and_intros <;> (simp only [recomputeAndEvaluate]; repeat' split) <;> simp

/-! ### Pumps -/

@[simp] theorem openPoint_keeps (p : Point) (s : State) :
    (openPoint p s).clock = s.clock ∧ (openPoint p s).site = s.site ∧ (openPoint p s).products = s.products
    ∧ (openPoint p s).lanes = s.lanes ∧ (openPoint p s).screening = s.screening
    ∧ (openPoint p s).auth = s.auth ∧ (openPoint p s).sup = s.sup ∧ (openPoint p s).cal = s.cal
    ∧ (openPoint p s).link.receiver = s.link.receiver ∧ (openPoint p s).link.gap = s.link.gap
    ∧ (openPoint p s).link.station = s.link.station ∧ (openPoint p s).link.rate = s.link.rate
    ∧ (openPoint p s).link.pinAddress = s.link.pinAddress ∧ (openPoint p s).link.pinRate = s.link.pinRate
    ∧ (openPoint p s).link.reply = s.link.reply ∧ (openPoint p s).link.lastTaken = s.link.lastTaken
    ∧ (openPoint p s).link.acquirerUp = s.link.acquirerUp ∧ (openPoint p s).pending = s.pending := by
  and_intros <;> (simp only [openPoint]; repeat' split) <;> simp

@[simp] theorem openProving_keeps (p : Point) (s : State) :
    (openProving p s).clock = s.clock ∧ (openProving p s).site = s.site
    ∧ (openProving p s).products = s.products ∧ (openProving p s).lanes = s.lanes
    ∧ (openProving p s).screening = s.screening ∧ (openProving p s).auth = s.auth
    ∧ (openProving p s).pumps = s.pumps ∧ (openProving p s).sup = s.sup ∧ (openProving p s).cal = s.cal
    ∧ (openProving p s).link = s.link ∧ (openProving p s).pending = s.pending := by
  and_intros <;> (simp only [openProving]; repeat' split) <;> simp

@[simp] theorem tellRunning_keeps (p : Point) (s : State) :
    (tellRunning p s).clock = s.clock ∧ (tellRunning p s).site = s.site
    ∧ (tellRunning p s).products = s.products ∧ (tellRunning p s).lanes = s.lanes
    ∧ (tellRunning p s).screening = s.screening ∧ (tellRunning p s).auth = s.auth
    ∧ (tellRunning p s).sup = s.sup ∧ (tellRunning p s).cal = s.cal
    ∧ (tellRunning p s).link.receiver = s.link.receiver ∧ (tellRunning p s).link.gap = s.link.gap
    ∧ (tellRunning p s).link.station = s.link.station ∧ (tellRunning p s).link.rate = s.link.rate
    ∧ (tellRunning p s).link.pinAddress = s.link.pinAddress
    ∧ (tellRunning p s).link.pinRate = s.link.pinRate ∧ (tellRunning p s).link.reply = s.link.reply
    ∧ (tellRunning p s).link.lastTaken = s.link.lastTaken
    ∧ (tellRunning p s).link.acquirerUp = s.link.acquirerUp ∧ (tellRunning p s).pending = s.pending := by
  and_intros <;> (simp only [tellRunning]; repeat' split) <;> simp

@[simp] theorem demandJoin_keeps (p : Point) (s : State) :
    (demandJoin p s).clock = s.clock ∧ (demandJoin p s).site = s.site
    ∧ (demandJoin p s).products = s.products ∧ (demandJoin p s).lanes = s.lanes
    ∧ (demandJoin p s).screening = s.screening ∧ (demandJoin p s).auth = s.auth
    ∧ (demandJoin p s).sup = s.sup ∧ (demandJoin p s).cal = s.cal
    ∧ (demandJoin p s).link.receiver = s.link.receiver ∧ (demandJoin p s).link.gap = s.link.gap
    ∧ (demandJoin p s).link.station = s.link.station ∧ (demandJoin p s).link.rate = s.link.rate
    ∧ (demandJoin p s).link.pinAddress = s.link.pinAddress ∧ (demandJoin p s).link.pinRate = s.link.pinRate
    ∧ (demandJoin p s).link.reply = s.link.reply ∧ (demandJoin p s).link.lastTaken = s.link.lastTaken
    ∧ (demandJoin p s).link.acquirerUp = s.link.acquirerUp ∧ (demandJoin p s).pending = s.pending := by
  and_intros <;> (simp only [demandJoin]; repeat' split) <;> simp

@[simp] theorem enterWaitPump_keeps (p : Point) (s : State) :
    (enterWaitPump p s).clock = s.clock ∧ (enterWaitPump p s).site = s.site
    ∧ (enterWaitPump p s).products = s.products ∧ (enterWaitPump p s).lanes = s.lanes
    ∧ (enterWaitPump p s).screening = s.screening ∧ (enterWaitPump p s).auth = s.auth
    ∧ (enterWaitPump p s).sup = s.sup ∧ (enterWaitPump p s).cal = s.cal
    ∧ (enterWaitPump p s).link.receiver = s.link.receiver ∧ (enterWaitPump p s).link.gap = s.link.gap
    ∧ (enterWaitPump p s).link.station = s.link.station ∧ (enterWaitPump p s).link.rate = s.link.rate
    ∧ (enterWaitPump p s).link.pinAddress = s.link.pinAddress
    ∧ (enterWaitPump p s).link.pinRate = s.link.pinRate ∧ (enterWaitPump p s).link.reply = s.link.reply
    ∧ (enterWaitPump p s).link.lastTaken = s.link.lastTaken
    ∧ (enterWaitPump p s).link.acquirerUp = s.link.acquirerUp ∧ (enterWaitPump p s).pending = s.pending := by
  and_intros <;> (simp only [enterWaitPump]; repeat' split) <;> simp

@[simp] theorem enterPumpWait_keeps (p : Point) (s : State) :
    (enterPumpWait p s).clock = s.clock ∧ (enterPumpWait p s).site = s.site
    ∧ (enterPumpWait p s).products = s.products ∧ (enterPumpWait p s).lanes = s.lanes
    ∧ (enterPumpWait p s).screening = s.screening ∧ (enterPumpWait p s).auth = s.auth
    ∧ (enterPumpWait p s).sup = s.sup ∧ (enterPumpWait p s).cal = s.cal
    ∧ (enterPumpWait p s).link.receiver = s.link.receiver ∧ (enterPumpWait p s).link.gap = s.link.gap
    ∧ (enterPumpWait p s).link.station = s.link.station ∧ (enterPumpWait p s).link.rate = s.link.rate
    ∧ (enterPumpWait p s).link.pinAddress = s.link.pinAddress
    ∧ (enterPumpWait p s).link.pinRate = s.link.pinRate ∧ (enterPumpWait p s).link.reply = s.link.reply
    ∧ (enterPumpWait p s).link.lastTaken = s.link.lastTaken
    ∧ (enterPumpWait p s).link.acquirerUp = s.link.acquirerUp ∧ (enterPumpWait p s).pending = s.pending := by
  and_intros <;> (simp only [enterPumpWait]; repeat' split) <;> simp

@[simp] theorem upToPressure_keeps (k : Pump) (s : State) :
    (upToPressure k s).clock = s.clock ∧ (upToPressure k s).site = s.site
    ∧ (upToPressure k s).products = s.products ∧ (upToPressure k s).lanes = s.lanes
    ∧ (upToPressure k s).screening = s.screening ∧ (upToPressure k s).auth = s.auth
    ∧ (upToPressure k s).sup = s.sup ∧ (upToPressure k s).cal = s.cal
    ∧ (upToPressure k s).link.receiver = s.link.receiver ∧ (upToPressure k s).link.gap = s.link.gap
    ∧ (upToPressure k s).link.station = s.link.station ∧ (upToPressure k s).link.rate = s.link.rate
    ∧ (upToPressure k s).link.pinAddress = s.link.pinAddress
    ∧ (upToPressure k s).link.pinRate = s.link.pinRate ∧ (upToPressure k s).link.reply = s.link.reply
    ∧ (upToPressure k s).link.lastTaken = s.link.lastTaken
    ∧ (upToPressure k s).link.acquirerUp = s.link.acquirerUp ∧ (upToPressure k s).pending = s.pending := by
  and_intros <;> (simp only [upToPressure]; repeat' split) <;> simp

@[simp] theorem failPoint_keeps (p : Point) (s : State) :
    (failPoint p s).clock = s.clock ∧ (failPoint p s).site = s.site ∧ (failPoint p s).products = s.products
    ∧ (failPoint p s).lanes = s.lanes ∧ (failPoint p s).screening = s.screening
    ∧ (failPoint p s).auth = s.auth ∧ (failPoint p s).sup = s.sup ∧ (failPoint p s).cal = s.cal
    ∧ (failPoint p s).link.receiver = s.link.receiver ∧ (failPoint p s).link.gap = s.link.gap
    ∧ (failPoint p s).link.station = s.link.station ∧ (failPoint p s).link.rate = s.link.rate
    ∧ (failPoint p s).link.pinAddress = s.link.pinAddress ∧ (failPoint p s).link.pinRate = s.link.pinRate
    ∧ (failPoint p s).link.reply = s.link.reply ∧ (failPoint p s).link.lastTaken = s.link.lastTaken
    ∧ (failPoint p s).link.acquirerUp = s.link.acquirerUp ∧ (failPoint p s).pending = s.pending := by
  and_intros <;> (simp only [failPoint]; repeat' split) <;> simp

@[simp] theorem pumpFail_keeps (k : Pump) (r : PumpCause) (s : State) :
    (pumpFail k r s).clock = s.clock ∧ (pumpFail k r s).site = s.site
    ∧ (pumpFail k r s).products = s.products ∧ (pumpFail k r s).lanes = s.lanes
    ∧ (pumpFail k r s).screening = s.screening ∧ (pumpFail k r s).auth = s.auth
    ∧ (pumpFail k r s).sup.estopInput = s.sup.estopInput
    ∧ (pumpFail k r s).sup.estopLatch = s.sup.estopLatch
    ∧ (pumpFail k r s).sup.noticeBlock = s.sup.noticeBlock
    ∧ (pumpFail k r s).sup.snapshots = s.sup.snapshots
    ∧ (pumpFail k r s).sup.snapshotTime = s.sup.snapshotTime
    ∧ (pumpFail k r s).sup.reportTimer = s.sup.reportTimer ∧ (pumpFail k r s).cal = s.cal
    ∧ (pumpFail k r s).link.receiver = s.link.receiver ∧ (pumpFail k r s).link.gap = s.link.gap
    ∧ (pumpFail k r s).link.station = s.link.station ∧ (pumpFail k r s).link.rate = s.link.rate
    ∧ (pumpFail k r s).link.pinAddress = s.link.pinAddress ∧ (pumpFail k r s).link.pinRate = s.link.pinRate
    ∧ (pumpFail k r s).link.reply = s.link.reply ∧ (pumpFail k r s).link.lastTaken = s.link.lastTaken
    ∧ (pumpFail k r s).link.acquirerUp = s.link.acquirerUp ∧ (pumpFail k r s).pending = s.pending := by
  and_intros <;> (simp only [pumpFail]; repeat' split) <;> simp

/-! ### Binding -/

@[simp] theorem loadBinding_keeps (k : Slot) (p : Point) (s : State) :
    (loadBinding k p s).clock = s.clock ∧ (loadBinding k p s).site = s.site
    ∧ (loadBinding k p s).products = s.products ∧ (loadBinding k p s).lanes = s.lanes
    ∧ (loadBinding k p s).screening = s.screening ∧ (loadBinding k p s).auth.serial = s.auth.serial
    ∧ (loadBinding k p s).auth.sales = s.auth.sales ∧ (loadBinding k p s).pumps = s.pumps
    ∧ (loadBinding k p s).sup = s.sup ∧ (loadBinding k p s).cal = s.cal ∧ (loadBinding k p s).link = s.link
    ∧ (loadBinding k p s).pending = s.pending := by
  and_intros <;> (simp only [loadBinding]; repeat' split) <;> simp

@[simp] theorem attachLine_keeps (k : Slot) (p : Point) (s : State) :
    (attachLine k p s).clock = s.clock ∧ (attachLine k p s).site = s.site
    ∧ (attachLine k p s).products = s.products ∧ (attachLine k p s).lanes = s.lanes
    ∧ (attachLine k p s).screening = s.screening ∧ (attachLine k p s).auth.serial = s.auth.serial
    ∧ (attachLine k p s).auth.sales = s.auth.sales ∧ (attachLine k p s).sup = s.sup
    ∧ (attachLine k p s).cal = s.cal ∧ (attachLine k p s).link.receiver = s.link.receiver
    ∧ (attachLine k p s).link.gap = s.link.gap ∧ (attachLine k p s).link.station = s.link.station
    ∧ (attachLine k p s).link.rate = s.link.rate ∧ (attachLine k p s).link.pinAddress = s.link.pinAddress
    ∧ (attachLine k p s).link.pinRate = s.link.pinRate ∧ (attachLine k p s).link.reply = s.link.reply
    ∧ (attachLine k p s).link.lastTaken = s.link.lastTaken
    ∧ (attachLine k p s).link.acquirerUp = s.link.acquirerUp ∧ (attachLine k p s).pending = s.pending := by
  and_intros <;> (simp only [attachLine]; repeat' split) <;> simp

@[simp] theorem proceed_keeps (p : Point) (s : State) :
    (proceed p s).clock = s.clock ∧ (proceed p s).site = s.site ∧ (proceed p s).products = s.products
    ∧ (proceed p s).lanes = s.lanes ∧ (proceed p s).screening = s.screening ∧ (proceed p s).auth = s.auth
    ∧ (proceed p s).sup = s.sup ∧ (proceed p s).cal = s.cal ∧ (proceed p s).link.receiver = s.link.receiver
    ∧ (proceed p s).link.gap = s.link.gap ∧ (proceed p s).link.station = s.link.station
    ∧ (proceed p s).link.rate = s.link.rate ∧ (proceed p s).link.pinAddress = s.link.pinAddress
    ∧ (proceed p s).link.pinRate = s.link.pinRate ∧ (proceed p s).link.reply = s.link.reply
    ∧ (proceed p s).link.lastTaken = s.link.lastTaken ∧ (proceed p s).link.acquirerUp = s.link.acquirerUp
    ∧ (proceed p s).pending = s.pending := by
  and_intros <;> (simp only [proceed]; repeat' split) <;> simp

@[simp] theorem bindPoints_keeps (k : Slot) (r : Product) (ps : List Point) (s : State) :
    (bindPoints k r ps s).clock = s.clock ∧ (bindPoints k r ps s).site = s.site
    ∧ (bindPoints k r ps s).products = s.products ∧ (bindPoints k r ps s).lanes = s.lanes
    ∧ (bindPoints k r ps s).screening = s.screening ∧ (bindPoints k r ps s).auth.serial = s.auth.serial
    ∧ (bindPoints k r ps s).auth.sales = s.auth.sales ∧ (bindPoints k r ps s).sup = s.sup
    ∧ (bindPoints k r ps s).cal = s.cal ∧ (bindPoints k r ps s).link.receiver = s.link.receiver
    ∧ (bindPoints k r ps s).link.gap = s.link.gap ∧ (bindPoints k r ps s).link.station = s.link.station
    ∧ (bindPoints k r ps s).link.rate = s.link.rate
    ∧ (bindPoints k r ps s).link.pinAddress = s.link.pinAddress
    ∧ (bindPoints k r ps s).link.pinRate = s.link.pinRate ∧ (bindPoints k r ps s).link.reply = s.link.reply
    ∧ (bindPoints k r ps s).link.lastTaken = s.link.lastTaken
    ∧ (bindPoints k r ps s).link.acquirerUp = s.link.acquirerUp ∧ (bindPoints k r ps s).pending = s.pending := by
  and_intros <;> (simp only [bindPoints]; repeat' split) <;> simp

@[simp] theorem askToBind_keeps (p : Point) (s : State) :
    (askToBind p s).clock = s.clock ∧ (askToBind p s).site = s.site ∧ (askToBind p s).products = s.products
    ∧ (askToBind p s).lanes = s.lanes ∧ (askToBind p s).screening = s.screening
    ∧ (askToBind p s).auth.serial = s.auth.serial ∧ (askToBind p s).auth.sales = s.auth.sales
    ∧ (askToBind p s).sup = s.sup ∧ (askToBind p s).cal = s.cal
    ∧ (askToBind p s).link.receiver = s.link.receiver ∧ (askToBind p s).link.gap = s.link.gap
    ∧ (askToBind p s).link.station = s.link.station ∧ (askToBind p s).link.rate = s.link.rate
    ∧ (askToBind p s).link.pinAddress = s.link.pinAddress ∧ (askToBind p s).link.pinRate = s.link.pinRate
    ∧ (askToBind p s).link.reply = s.link.reply ∧ (askToBind p s).link.lastTaken = s.link.lastTaken
    ∧ (askToBind p s).link.acquirerUp = s.link.acquirerUp ∧ (askToBind p s).pending = s.pending := by
  and_intros <;> (simp only [askToBind]; repeat' split) <;> simp

@[simp] theorem enterCalling_keeps (p : Point) (s : State) :
    (enterCalling p s).clock = s.clock ∧ (enterCalling p s).site = s.site
    ∧ (enterCalling p s).products = s.products ∧ (enterCalling p s).lanes = s.lanes
    ∧ (enterCalling p s).screening = s.screening ∧ (enterCalling p s).auth.serial = s.auth.serial
    ∧ (enterCalling p s).auth.sales = s.auth.sales ∧ (enterCalling p s).sup = s.sup
    ∧ (enterCalling p s).cal = s.cal ∧ (enterCalling p s).link.receiver = s.link.receiver
    ∧ (enterCalling p s).link.gap = s.link.gap ∧ (enterCalling p s).link.station = s.link.station
    ∧ (enterCalling p s).link.rate = s.link.rate ∧ (enterCalling p s).link.pinAddress = s.link.pinAddress
    ∧ (enterCalling p s).link.pinRate = s.link.pinRate ∧ (enterCalling p s).link.reply = s.link.reply
    ∧ (enterCalling p s).link.lastTaken = s.link.lastTaken
    ∧ (enterCalling p s).link.acquirerUp = s.link.acquirerUp ∧ (enterCalling p s).pending = s.pending := by
  and_intros <;> (simp only [enterCalling]; repeat' split) <;> simp

@[simp] theorem presentCalling_keeps (p : Point) (s : State) :
    (presentCalling p s).clock = s.clock ∧ (presentCalling p s).site = s.site
    ∧ (presentCalling p s).products = s.products ∧ (presentCalling p s).lanes = s.lanes
    ∧ (presentCalling p s).screening = s.screening ∧ (presentCalling p s).auth.serial = s.auth.serial
    ∧ (presentCalling p s).auth.sales = s.auth.sales ∧ (presentCalling p s).sup = s.sup
    ∧ (presentCalling p s).cal = s.cal ∧ (presentCalling p s).link.receiver = s.link.receiver
    ∧ (presentCalling p s).link.gap = s.link.gap ∧ (presentCalling p s).link.station = s.link.station
    ∧ (presentCalling p s).link.rate = s.link.rate
    ∧ (presentCalling p s).link.pinAddress = s.link.pinAddress
    ∧ (presentCalling p s).link.pinRate = s.link.pinRate ∧ (presentCalling p s).link.reply = s.link.reply
    ∧ (presentCalling p s).link.lastTaken = s.link.lastTaken
    ∧ (presentCalling p s).link.acquirerUp = s.link.acquirerUp ∧ (presentCalling p s).pending = s.pending := by
  and_intros <;> (simp only [presentCalling]; repeat' split) <;> simp

@[simp] theorem enterArmed_keeps (k : Slot) (s : State) :
    (enterArmed k s).clock = s.clock ∧ (enterArmed k s).site = s.site
    ∧ (enterArmed k s).products = s.products ∧ (enterArmed k s).lanes = s.lanes
    ∧ (enterArmed k s).screening = s.screening ∧ (enterArmed k s).auth.serial = s.auth.serial
    ∧ (enterArmed k s).auth.sales = s.auth.sales ∧ (enterArmed k s).sup = s.sup
    ∧ (enterArmed k s).cal = s.cal ∧ (enterArmed k s).link.receiver = s.link.receiver
    ∧ (enterArmed k s).link.gap = s.link.gap ∧ (enterArmed k s).link.station = s.link.station
    ∧ (enterArmed k s).link.rate = s.link.rate ∧ (enterArmed k s).link.pinAddress = s.link.pinAddress
    ∧ (enterArmed k s).link.pinRate = s.link.pinRate ∧ (enterArmed k s).link.reply = s.link.reply
    ∧ (enterArmed k s).link.lastTaken = s.link.lastTaken
    ∧ (enterArmed k s).link.acquirerUp = s.link.acquirerUp ∧ (enterArmed k s).pending = s.pending := by
  and_intros <;> (simp only [enterArmed]; repeat' split) <;> simp

/-! ### Settlement -/

@[simp] theorem freeWith_keeps (k : Slot) (o : AuthOutcome) (s : State) :
    (freeWith k o s).clock = s.clock ∧ (freeWith k o s).site = s.site
    ∧ (freeWith k o s).products = s.products ∧ (freeWith k o s).lanes = s.lanes
    ∧ (freeWith k o s).screening = s.screening ∧ (freeWith k o s).auth.serial = s.auth.serial
    ∧ (freeWith k o s).auth.sales = s.auth.sales ∧ (freeWith k o s).points = s.points
    ∧ (freeWith k o s).pumps = s.pumps ∧ (freeWith k o s).sup = s.sup ∧ (freeWith k o s).cal = s.cal
    ∧ (freeWith k o s).link.receiver = s.link.receiver ∧ (freeWith k o s).link.gap = s.link.gap
    ∧ (freeWith k o s).link.station = s.link.station ∧ (freeWith k o s).link.rate = s.link.rate
    ∧ (freeWith k o s).link.pinAddress = s.link.pinAddress ∧ (freeWith k o s).link.pinRate = s.link.pinRate
    ∧ (freeWith k o s).link.reply = s.link.reply ∧ (freeWith k o s).link.lastTaken = s.link.lastTaken
    ∧ (freeWith k o s).link.acquirerUp = s.link.acquirerUp ∧ (freeWith k o s).pending = s.pending := by
  and_intros <;> (simp only [freeWith]; repeat' split) <;> simp

@[simp] theorem announceSale_keeps (a : AuthRecord) (s : State) :
    (announceSale a s).clock = s.clock ∧ (announceSale a s).site = s.site
    ∧ (announceSale a s).products = s.products ∧ (announceSale a s).lanes = s.lanes
    ∧ (announceSale a s).screening = s.screening ∧ (announceSale a s).auth = s.auth
    ∧ (announceSale a s).points = s.points ∧ (announceSale a s).pumps = s.pumps
    ∧ (announceSale a s).sup = s.sup ∧ (announceSale a s).cal = s.cal
    ∧ (announceSale a s).link.receiver = s.link.receiver ∧ (announceSale a s).link.gap = s.link.gap
    ∧ (announceSale a s).link.station = s.link.station ∧ (announceSale a s).link.rate = s.link.rate
    ∧ (announceSale a s).link.pinAddress = s.link.pinAddress
    ∧ (announceSale a s).link.pinRate = s.link.pinRate ∧ (announceSale a s).link.reply = s.link.reply
    ∧ (announceSale a s).link.lastTaken = s.link.lastTaken
    ∧ (announceSale a s).link.acquirerUp = s.link.acquirerUp ∧ (announceSale a s).pending = s.pending := by
  and_intros <;> (simp only [announceSale]; repeat' split) <;> simp

@[simp] theorem settleSilently_keeps (k : Slot) (r : RecordEnd) (s : State) :
    (settleSilently k r s).clock = s.clock ∧ (settleSilently k r s).site = s.site
    ∧ (settleSilently k r s).products = s.products ∧ (settleSilently k r s).lanes = s.lanes
    ∧ (settleSilently k r s).screening.profiles = s.screening.profiles
    ∧ (settleSilently k r s).screening.valid = s.screening.valid
    ∧ (settleSilently k r s).screening.hotList = s.screening.hotList
    ∧ (settleSilently k r s).auth.serial = s.auth.serial ∧ (settleSilently k r s).points = s.points
    ∧ (settleSilently k r s).pumps = s.pumps ∧ (settleSilently k r s).sup = s.sup
    ∧ (settleSilently k r s).cal = s.cal ∧ (settleSilently k r s).link = s.link
    ∧ (settleSilently k r s).pending = s.pending := by
  and_intros <;> (simp only [settleSilently]; repeat' split) <;> simp

@[simp] theorem settle_keeps (k : Slot) (r : RecordEnd) (s : State) :
    (settle k r s).clock = s.clock ∧ (settle k r s).site = s.site ∧ (settle k r s).products = s.products
    ∧ (settle k r s).lanes = s.lanes ∧ (settle k r s).screening.profiles = s.screening.profiles
    ∧ (settle k r s).screening.valid = s.screening.valid
    ∧ (settle k r s).screening.hotList = s.screening.hotList ∧ (settle k r s).auth.serial = s.auth.serial
    ∧ (settle k r s).points = s.points ∧ (settle k r s).pumps = s.pumps ∧ (settle k r s).sup = s.sup
    ∧ (settle k r s).cal = s.cal ∧ (settle k r s).link.receiver = s.link.receiver
    ∧ (settle k r s).link.gap = s.link.gap ∧ (settle k r s).link.station = s.link.station
    ∧ (settle k r s).link.rate = s.link.rate ∧ (settle k r s).link.pinAddress = s.link.pinAddress
    ∧ (settle k r s).link.pinRate = s.link.pinRate ∧ (settle k r s).link.reply = s.link.reply
    ∧ (settle k r s).link.lastTaken = s.link.lastTaken ∧ (settle k r s).link.acquirerUp = s.link.acquirerUp
    ∧ (settle k r s).pending = s.pending := by
  and_intros <;> (simp only [settle]; repeat' split) <;> simp

@[simp] theorem afterRelease_keeps (k : Slot) (s : State) :
    (afterRelease k s).clock = s.clock ∧ (afterRelease k s).site = s.site
    ∧ (afterRelease k s).products = s.products ∧ (afterRelease k s).lanes = s.lanes
    ∧ (afterRelease k s).screening.profiles = s.screening.profiles
    ∧ (afterRelease k s).screening.valid = s.screening.valid
    ∧ (afterRelease k s).screening.hotList = s.screening.hotList
    ∧ (afterRelease k s).auth.serial = s.auth.serial ∧ (afterRelease k s).points = s.points
    ∧ (afterRelease k s).pumps = s.pumps ∧ (afterRelease k s).sup = s.sup ∧ (afterRelease k s).cal = s.cal
    ∧ (afterRelease k s).link.receiver = s.link.receiver ∧ (afterRelease k s).link.gap = s.link.gap
    ∧ (afterRelease k s).link.station = s.link.station ∧ (afterRelease k s).link.rate = s.link.rate
    ∧ (afterRelease k s).link.pinAddress = s.link.pinAddress
    ∧ (afterRelease k s).link.pinRate = s.link.pinRate ∧ (afterRelease k s).link.reply = s.link.reply
    ∧ (afterRelease k s).link.lastTaken = s.link.lastTaken
    ∧ (afterRelease k s).link.acquirerUp = s.link.acquirerUp ∧ (afterRelease k s).pending = s.pending := by
  and_intros <;> (simp only [afterRelease]; repeat' split) <;> simp

@[simp] theorem mergeDelivery_keeps (p : Point) (s : State) :
    (mergeDelivery p s).clock = s.clock ∧ (mergeDelivery p s).site = s.site
    ∧ (mergeDelivery p s).products = s.products ∧ (mergeDelivery p s).lanes = s.lanes
    ∧ (mergeDelivery p s).screening.profiles = s.screening.profiles
    ∧ (mergeDelivery p s).screening.valid = s.screening.valid
    ∧ (mergeDelivery p s).screening.hotList = s.screening.hotList
    ∧ (mergeDelivery p s).auth.serial = s.auth.serial
    ∧ (mergeDelivery p s).sup.estopInput = s.sup.estopInput
    ∧ (mergeDelivery p s).sup.estopLatch = s.sup.estopLatch
    ∧ (mergeDelivery p s).sup.noticeBlock = s.sup.noticeBlock
    ∧ (mergeDelivery p s).sup.snapshots = s.sup.snapshots
    ∧ (mergeDelivery p s).sup.snapshotTime = s.sup.snapshotTime
    ∧ (mergeDelivery p s).sup.reportTimer = s.sup.reportTimer ∧ (mergeDelivery p s).cal = s.cal
    ∧ (mergeDelivery p s).link.receiver = s.link.receiver ∧ (mergeDelivery p s).link.gap = s.link.gap
    ∧ (mergeDelivery p s).link.station = s.link.station ∧ (mergeDelivery p s).link.rate = s.link.rate
    ∧ (mergeDelivery p s).link.pinAddress = s.link.pinAddress
    ∧ (mergeDelivery p s).link.pinRate = s.link.pinRate ∧ (mergeDelivery p s).link.reply = s.link.reply
    ∧ (mergeDelivery p s).link.lastTaken = s.link.lastTaken
    ∧ (mergeDelivery p s).link.acquirerUp = s.link.acquirerUp ∧ (mergeDelivery p s).pending = s.pending := by
  and_intros <;> (simp only [mergeDelivery]; repeat' split) <;> simp

@[simp] theorem restPoint_keeps (h : Bool) (p : Point) (s : State) :
    (restPoint h p s).clock = s.clock ∧ (restPoint h p s).site = s.site
    ∧ (restPoint h p s).products = s.products ∧ (restPoint h p s).lanes = s.lanes
    ∧ (restPoint h p s).screening = s.screening ∧ (restPoint h p s).auth = s.auth
    ∧ (restPoint h p s).pumps = s.pumps ∧ (restPoint h p s).sup = s.sup ∧ (restPoint h p s).cal = s.cal
    ∧ (restPoint h p s).link = s.link ∧ (restPoint h p s).pending = s.pending := by
  and_intros <;> (simp only [restPoint]; repeat' split) <;> simp

/-! ### Metering -/

@[simp] theorem surgeEvent_keeps (p : Point) (s : State) :
    (surgeEvent p s).clock = s.clock ∧ (surgeEvent p s).site = s.site
    ∧ (surgeEvent p s).products = s.products ∧ (surgeEvent p s).lanes = s.lanes
    ∧ (surgeEvent p s).screening = s.screening ∧ (surgeEvent p s).auth = s.auth
    ∧ (surgeEvent p s).sup = s.sup ∧ (surgeEvent p s).cal = s.cal
    ∧ (surgeEvent p s).link.receiver = s.link.receiver ∧ (surgeEvent p s).link.gap = s.link.gap
    ∧ (surgeEvent p s).link.station = s.link.station ∧ (surgeEvent p s).link.rate = s.link.rate
    ∧ (surgeEvent p s).link.pinAddress = s.link.pinAddress ∧ (surgeEvent p s).link.pinRate = s.link.pinRate
    ∧ (surgeEvent p s).link.reply = s.link.reply ∧ (surgeEvent p s).link.lastTaken = s.link.lastTaken
    ∧ (surgeEvent p s).link.acquirerUp = s.link.acquirerUp ∧ (surgeEvent p s).pending = s.pending := by
  and_intros <;> (simp only [surgeEvent]; repeat' split) <;> simp

@[simp] theorem presentFinding_keeps (p : Point) (r : Finding) (s : State) :
    (presentFinding p r s).clock = s.clock ∧ (presentFinding p r s).site = s.site
    ∧ (presentFinding p r s).products = s.products ∧ (presentFinding p r s).lanes = s.lanes
    ∧ (presentFinding p r s).screening = s.screening ∧ (presentFinding p r s).auth = s.auth
    ∧ (presentFinding p r s).sup.estopInput = s.sup.estopInput
    ∧ (presentFinding p r s).sup.estopLatch = s.sup.estopLatch
    ∧ (presentFinding p r s).sup.noticeBlock = s.sup.noticeBlock
    ∧ (presentFinding p r s).sup.snapshots = s.sup.snapshots
    ∧ (presentFinding p r s).sup.snapshotTime = s.sup.snapshotTime
    ∧ (presentFinding p r s).sup.reportTimer = s.sup.reportTimer ∧ (presentFinding p r s).cal = s.cal
    ∧ (presentFinding p r s).link.receiver = s.link.receiver ∧ (presentFinding p r s).link.gap = s.link.gap
    ∧ (presentFinding p r s).link.station = s.link.station ∧ (presentFinding p r s).link.rate = s.link.rate
    ∧ (presentFinding p r s).link.pinAddress = s.link.pinAddress
    ∧ (presentFinding p r s).link.pinRate = s.link.pinRate
    ∧ (presentFinding p r s).link.reply = s.link.reply
    ∧ (presentFinding p r s).link.lastTaken = s.link.lastTaken
    ∧ (presentFinding p r s).link.acquirerUp = s.link.acquirerUp
    ∧ (presentFinding p r s).pending = s.pending := by
  and_intros <;> (simp only [presentFinding]; repeat' split) <;> simp

@[simp] theorem completeWindow_keeps (p : Point) (s : State) :
    (completeWindow p s).clock = s.clock ∧ (completeWindow p s).site = s.site
    ∧ (completeWindow p s).products = s.products ∧ (completeWindow p s).lanes = s.lanes
    ∧ (completeWindow p s).screening = s.screening ∧ (completeWindow p s).auth = s.auth
    ∧ (completeWindow p s).sup.estopInput = s.sup.estopInput
    ∧ (completeWindow p s).sup.estopLatch = s.sup.estopLatch
    ∧ (completeWindow p s).sup.noticeBlock = s.sup.noticeBlock
    ∧ (completeWindow p s).sup.snapshots = s.sup.snapshots
    ∧ (completeWindow p s).sup.snapshotTime = s.sup.snapshotTime
    ∧ (completeWindow p s).sup.reportTimer = s.sup.reportTimer ∧ (completeWindow p s).cal = s.cal
    ∧ (completeWindow p s).link.receiver = s.link.receiver ∧ (completeWindow p s).link.gap = s.link.gap
    ∧ (completeWindow p s).link.station = s.link.station ∧ (completeWindow p s).link.rate = s.link.rate
    ∧ (completeWindow p s).link.pinAddress = s.link.pinAddress
    ∧ (completeWindow p s).link.pinRate = s.link.pinRate ∧ (completeWindow p s).link.reply = s.link.reply
    ∧ (completeWindow p s).link.lastTaken = s.link.lastTaken
    ∧ (completeWindow p s).link.acquirerUp = s.link.acquirerUp ∧ (completeWindow p s).pending = s.pending := by
  and_intros <;> (simp only [completeWindow]; repeat' split) <;> simp

@[simp] theorem monitorCount_keeps (p : Point) (s : State) :
    (monitorCount p s).clock = s.clock ∧ (monitorCount p s).site = s.site
    ∧ (monitorCount p s).products = s.products ∧ (monitorCount p s).lanes = s.lanes
    ∧ (monitorCount p s).screening = s.screening ∧ (monitorCount p s).auth = s.auth
    ∧ (monitorCount p s).sup.estopInput = s.sup.estopInput
    ∧ (monitorCount p s).sup.estopLatch = s.sup.estopLatch
    ∧ (monitorCount p s).sup.noticeBlock = s.sup.noticeBlock
    ∧ (monitorCount p s).sup.snapshots = s.sup.snapshots
    ∧ (monitorCount p s).sup.snapshotTime = s.sup.snapshotTime
    ∧ (monitorCount p s).sup.reportTimer = s.sup.reportTimer ∧ (monitorCount p s).cal = s.cal
    ∧ (monitorCount p s).link.receiver = s.link.receiver ∧ (monitorCount p s).link.gap = s.link.gap
    ∧ (monitorCount p s).link.station = s.link.station ∧ (monitorCount p s).link.rate = s.link.rate
    ∧ (monitorCount p s).link.pinAddress = s.link.pinAddress
    ∧ (monitorCount p s).link.pinRate = s.link.pinRate ∧ (monitorCount p s).link.reply = s.link.reply
    ∧ (monitorCount p s).link.lastTaken = s.link.lastTaken
    ∧ (monitorCount p s).link.acquirerUp = s.link.acquirerUp ∧ (monitorCount p s).pending = s.pending := by
  and_intros <;> (simp only [monitorCount]; repeat' split) <;> simp

@[simp] theorem reverseCause_keeps (p : Point) (s : State) :
    (reverseCause p s).clock = s.clock ∧ (reverseCause p s).site = s.site
    ∧ (reverseCause p s).products = s.products ∧ (reverseCause p s).lanes = s.lanes
    ∧ (reverseCause p s).screening = s.screening ∧ (reverseCause p s).auth = s.auth
    ∧ (reverseCause p s).sup = s.sup ∧ (reverseCause p s).cal = s.cal
    ∧ (reverseCause p s).link.receiver = s.link.receiver ∧ (reverseCause p s).link.gap = s.link.gap
    ∧ (reverseCause p s).link.station = s.link.station ∧ (reverseCause p s).link.rate = s.link.rate
    ∧ (reverseCause p s).link.pinAddress = s.link.pinAddress
    ∧ (reverseCause p s).link.pinRate = s.link.pinRate ∧ (reverseCause p s).link.reply = s.link.reply
    ∧ (reverseCause p s).link.lastTaken = s.link.lastTaken
    ∧ (reverseCause p s).link.acquirerUp = s.link.acquirerUp ∧ (reverseCause p s).pending = s.pending := by
  and_intros <;> (simp only [reverseCause]; repeat' split) <;> simp

@[simp] theorem reverseCheck_keeps (p : Point) (a b : Int) (s : State) :
    (reverseCheck p a b s).clock = s.clock ∧ (reverseCheck p a b s).site = s.site
    ∧ (reverseCheck p a b s).products = s.products ∧ (reverseCheck p a b s).lanes = s.lanes
    ∧ (reverseCheck p a b s).screening = s.screening ∧ (reverseCheck p a b s).auth = s.auth
    ∧ (reverseCheck p a b s).sup.estopInput = s.sup.estopInput
    ∧ (reverseCheck p a b s).sup.estopLatch = s.sup.estopLatch
    ∧ (reverseCheck p a b s).sup.noticeBlock = s.sup.noticeBlock
    ∧ (reverseCheck p a b s).sup.snapshots = s.sup.snapshots
    ∧ (reverseCheck p a b s).sup.snapshotTime = s.sup.snapshotTime
    ∧ (reverseCheck p a b s).sup.reportTimer = s.sup.reportTimer ∧ (reverseCheck p a b s).cal = s.cal
    ∧ (reverseCheck p a b s).link.receiver = s.link.receiver ∧ (reverseCheck p a b s).link.gap = s.link.gap
    ∧ (reverseCheck p a b s).link.station = s.link.station ∧ (reverseCheck p a b s).link.rate = s.link.rate
    ∧ (reverseCheck p a b s).link.pinAddress = s.link.pinAddress
    ∧ (reverseCheck p a b s).link.pinRate = s.link.pinRate
    ∧ (reverseCheck p a b s).link.reply = s.link.reply
    ∧ (reverseCheck p a b s).link.lastTaken = s.link.lastTaken
    ∧ (reverseCheck p a b s).link.acquirerUp = s.link.acquirerUp
    ∧ (reverseCheck p a b s).pending = s.pending := by
  and_intros <;> (simp only [reverseCheck]; repeat' split) <;> simp

@[simp] theorem volumeChecks_keeps (p : Point) (s : State) :
    (volumeChecks p s).clock = s.clock ∧ (volumeChecks p s).site = s.site
    ∧ (volumeChecks p s).products = s.products ∧ (volumeChecks p s).lanes = s.lanes
    ∧ (volumeChecks p s).screening = s.screening ∧ (volumeChecks p s).auth = s.auth
    ∧ (volumeChecks p s).sup = s.sup ∧ (volumeChecks p s).cal = s.cal
    ∧ (volumeChecks p s).link.receiver = s.link.receiver ∧ (volumeChecks p s).link.gap = s.link.gap
    ∧ (volumeChecks p s).link.station = s.link.station ∧ (volumeChecks p s).link.rate = s.link.rate
    ∧ (volumeChecks p s).link.pinAddress = s.link.pinAddress
    ∧ (volumeChecks p s).link.pinRate = s.link.pinRate ∧ (volumeChecks p s).link.reply = s.link.reply
    ∧ (volumeChecks p s).link.lastTaken = s.link.lastTaken
    ∧ (volumeChecks p s).link.acquirerUp = s.link.acquirerUp ∧ (volumeChecks p s).pending = s.pending := by
  and_intros <;> (simp only [volumeChecks]; repeat' split) <;> simp

@[simp] theorem deliveryCount_keeps (p : Point) (up : Bool) (s : State) :
    (deliveryCount p up s).clock = s.clock ∧ (deliveryCount p up s).site = s.site
    ∧ (deliveryCount p up s).products = s.products ∧ (deliveryCount p up s).lanes = s.lanes
    ∧ (deliveryCount p up s).screening = s.screening ∧ (deliveryCount p up s).auth.serial = s.auth.serial
    ∧ (deliveryCount p up s).auth.sales = s.auth.sales
    ∧ (deliveryCount p up s).sup.estopInput = s.sup.estopInput
    ∧ (deliveryCount p up s).sup.estopLatch = s.sup.estopLatch
    ∧ (deliveryCount p up s).sup.noticeBlock = s.sup.noticeBlock
    ∧ (deliveryCount p up s).sup.snapshots = s.sup.snapshots
    ∧ (deliveryCount p up s).sup.snapshotTime = s.sup.snapshotTime
    ∧ (deliveryCount p up s).sup.reportTimer = s.sup.reportTimer ∧ (deliveryCount p up s).cal = s.cal
    ∧ (deliveryCount p up s).link.receiver = s.link.receiver ∧ (deliveryCount p up s).link.gap = s.link.gap
    ∧ (deliveryCount p up s).link.station = s.link.station ∧ (deliveryCount p up s).link.rate = s.link.rate
    ∧ (deliveryCount p up s).link.pinAddress = s.link.pinAddress
    ∧ (deliveryCount p up s).link.pinRate = s.link.pinRate
    ∧ (deliveryCount p up s).link.reply = s.link.reply
    ∧ (deliveryCount p up s).link.lastTaken = s.link.lastTaken
    ∧ (deliveryCount p up s).link.acquirerUp = s.link.acquirerUp
    ∧ (deliveryCount p up s).pending = s.pending := by
  and_intros <;> (simp only [deliveryCount]; repeat' split) <;> simp

@[simp] theorem runChecks_keeps (p : Point) (s : State) :
    (runChecks p s).clock = s.clock ∧ (runChecks p s).site = s.site ∧ (runChecks p s).products = s.products
    ∧ (runChecks p s).lanes = s.lanes ∧ (runChecks p s).screening = s.screening
    ∧ (runChecks p s).auth = s.auth ∧ (runChecks p s).sup = s.sup ∧ (runChecks p s).cal = s.cal
    ∧ (runChecks p s).link.receiver = s.link.receiver ∧ (runChecks p s).link.gap = s.link.gap
    ∧ (runChecks p s).link.station = s.link.station ∧ (runChecks p s).link.rate = s.link.rate
    ∧ (runChecks p s).link.pinAddress = s.link.pinAddress ∧ (runChecks p s).link.pinRate = s.link.pinRate
    ∧ (runChecks p s).link.reply = s.link.reply ∧ (runChecks p s).link.lastTaken = s.link.lastTaken
    ∧ (runChecks p s).link.acquirerUp = s.link.acquirerUp ∧ (runChecks p s).pending = s.pending := by
  and_intros <;> (simp only [runChecks]; repeat' split) <;> simp

@[simp] theorem provingCount_keeps (p : Point) (up : Bool) (s : State) :
    (provingCount p up s).clock = s.clock ∧ (provingCount p up s).site = s.site
    ∧ (provingCount p up s).products = s.products ∧ (provingCount p up s).lanes = s.lanes
    ∧ (provingCount p up s).screening = s.screening ∧ (provingCount p up s).auth = s.auth
    ∧ (provingCount p up s).sup.estopInput = s.sup.estopInput
    ∧ (provingCount p up s).sup.estopLatch = s.sup.estopLatch
    ∧ (provingCount p up s).sup.noticeBlock = s.sup.noticeBlock
    ∧ (provingCount p up s).sup.snapshots = s.sup.snapshots
    ∧ (provingCount p up s).sup.snapshotTime = s.sup.snapshotTime
    ∧ (provingCount p up s).sup.reportTimer = s.sup.reportTimer ∧ (provingCount p up s).cal = s.cal
    ∧ (provingCount p up s).link.receiver = s.link.receiver ∧ (provingCount p up s).link.gap = s.link.gap
    ∧ (provingCount p up s).link.station = s.link.station ∧ (provingCount p up s).link.rate = s.link.rate
    ∧ (provingCount p up s).link.pinAddress = s.link.pinAddress
    ∧ (provingCount p up s).link.pinRate = s.link.pinRate ∧ (provingCount p up s).link.reply = s.link.reply
    ∧ (provingCount p up s).link.lastTaken = s.link.lastTaken
    ∧ (provingCount p up s).link.acquirerUp = s.link.acquirerUp ∧ (provingCount p up s).pending = s.pending := by
  and_intros <;> (simp only [provingCount]; repeat' split) <;> simp

@[simp] theorem unauthorisedCount_keeps (p : Point) (s : State) :
    (unauthorisedCount p s).clock = s.clock ∧ (unauthorisedCount p s).site = s.site
    ∧ (unauthorisedCount p s).products = s.products ∧ (unauthorisedCount p s).lanes = s.lanes
    ∧ (unauthorisedCount p s).screening = s.screening ∧ (unauthorisedCount p s).auth = s.auth
    ∧ (unauthorisedCount p s).pumps = s.pumps ∧ (unauthorisedCount p s).sup.estopInput = s.sup.estopInput
    ∧ (unauthorisedCount p s).sup.estopLatch = s.sup.estopLatch
    ∧ (unauthorisedCount p s).sup.noticeBlock = s.sup.noticeBlock
    ∧ (unauthorisedCount p s).sup.snapshots = s.sup.snapshots
    ∧ (unauthorisedCount p s).sup.snapshotTime = s.sup.snapshotTime
    ∧ (unauthorisedCount p s).sup.reportTimer = s.sup.reportTimer ∧ (unauthorisedCount p s).cal = s.cal
    ∧ (unauthorisedCount p s).link.receiver = s.link.receiver
    ∧ (unauthorisedCount p s).link.gap = s.link.gap ∧ (unauthorisedCount p s).link.station = s.link.station
    ∧ (unauthorisedCount p s).link.rate = s.link.rate
    ∧ (unauthorisedCount p s).link.pinAddress = s.link.pinAddress
    ∧ (unauthorisedCount p s).link.pinRate = s.link.pinRate
    ∧ (unauthorisedCount p s).link.reply = s.link.reply
    ∧ (unauthorisedCount p s).link.lastTaken = s.link.lastTaken
    ∧ (unauthorisedCount p s).link.acquirerUp = s.link.acquirerUp
    ∧ (unauthorisedCount p s).pending = s.pending := by
  and_intros <;> (simp only [unauthorisedCount]; repeat' split) <;> simp

@[simp] theorem placeCount_keeps (p : Point) (up : Bool) (s : State) :
    (placeCount p up s).clock = s.clock ∧ (placeCount p up s).site = s.site
    ∧ (placeCount p up s).products = s.products ∧ (placeCount p up s).lanes = s.lanes
    ∧ (placeCount p up s).screening = s.screening ∧ (placeCount p up s).auth.serial = s.auth.serial
    ∧ (placeCount p up s).auth.sales = s.auth.sales ∧ (placeCount p up s).sup.estopInput = s.sup.estopInput
    ∧ (placeCount p up s).sup.estopLatch = s.sup.estopLatch
    ∧ (placeCount p up s).sup.noticeBlock = s.sup.noticeBlock
    ∧ (placeCount p up s).sup.snapshots = s.sup.snapshots
    ∧ (placeCount p up s).sup.snapshotTime = s.sup.snapshotTime
    ∧ (placeCount p up s).sup.reportTimer = s.sup.reportTimer ∧ (placeCount p up s).cal = s.cal
    ∧ (placeCount p up s).link.receiver = s.link.receiver ∧ (placeCount p up s).link.gap = s.link.gap
    ∧ (placeCount p up s).link.station = s.link.station ∧ (placeCount p up s).link.rate = s.link.rate
    ∧ (placeCount p up s).link.pinAddress = s.link.pinAddress
    ∧ (placeCount p up s).link.pinRate = s.link.pinRate ∧ (placeCount p up s).link.reply = s.link.reply
    ∧ (placeCount p up s).link.lastTaken = s.link.lastTaken
    ∧ (placeCount p up s).link.acquirerUp = s.link.acquirerUp ∧ (placeCount p up s).pending = s.pending := by
  and_intros <;> (simp only [placeCount]; repeat' split) <;> simp

@[simp] theorem takeCount_keeps (p : Point) (o : CountOrder) (up : Bool) (s : State) :
    (takeCount p o up s).clock = s.clock ∧ (takeCount p o up s).site = s.site
    ∧ (takeCount p o up s).products = s.products ∧ (takeCount p o up s).lanes = s.lanes
    ∧ (takeCount p o up s).screening = s.screening ∧ (takeCount p o up s).auth.serial = s.auth.serial
    ∧ (takeCount p o up s).auth.sales = s.auth.sales
    ∧ (takeCount p o up s).sup.estopInput = s.sup.estopInput
    ∧ (takeCount p o up s).sup.estopLatch = s.sup.estopLatch
    ∧ (takeCount p o up s).sup.noticeBlock = s.sup.noticeBlock
    ∧ (takeCount p o up s).sup.snapshots = s.sup.snapshots
    ∧ (takeCount p o up s).sup.snapshotTime = s.sup.snapshotTime
    ∧ (takeCount p o up s).sup.reportTimer = s.sup.reportTimer ∧ (takeCount p o up s).cal = s.cal
    ∧ (takeCount p o up s).link.receiver = s.link.receiver ∧ (takeCount p o up s).link.gap = s.link.gap
    ∧ (takeCount p o up s).link.station = s.link.station ∧ (takeCount p o up s).link.rate = s.link.rate
    ∧ (takeCount p o up s).link.pinAddress = s.link.pinAddress
    ∧ (takeCount p o up s).link.pinRate = s.link.pinRate ∧ (takeCount p o up s).link.reply = s.link.reply
    ∧ (takeCount p o up s).link.lastTaken = s.link.lastTaken
    ∧ (takeCount p o up s).link.acquirerUp = s.link.acquirerUp ∧ (takeCount p o up s).pending = s.pending := by
  and_intros <;> (simp only [takeCount]; repeat' split) <;> simp

@[simp] theorem noiseCause_keeps (p : Point) (s : State) :
    (noiseCause p s).clock = s.clock ∧ (noiseCause p s).site = s.site
    ∧ (noiseCause p s).products = s.products ∧ (noiseCause p s).lanes = s.lanes
    ∧ (noiseCause p s).screening = s.screening ∧ (noiseCause p s).auth = s.auth
    ∧ (noiseCause p s).sup = s.sup ∧ (noiseCause p s).cal = s.cal
    ∧ (noiseCause p s).link.receiver = s.link.receiver ∧ (noiseCause p s).link.gap = s.link.gap
    ∧ (noiseCause p s).link.station = s.link.station ∧ (noiseCause p s).link.rate = s.link.rate
    ∧ (noiseCause p s).link.pinAddress = s.link.pinAddress ∧ (noiseCause p s).link.pinRate = s.link.pinRate
    ∧ (noiseCause p s).link.reply = s.link.reply ∧ (noiseCause p s).link.lastTaken = s.link.lastTaken
    ∧ (noiseCause p s).link.acquirerUp = s.link.acquirerUp ∧ (noiseCause p s).pending = s.pending := by
  and_intros <;> (simp only [noiseCause]; repeat' split) <;> simp

@[simp] theorem readNoiseCriterion_keeps (p : Point) (s : State) :
    (readNoiseCriterion p s).clock = s.clock ∧ (readNoiseCriterion p s).site = s.site
    ∧ (readNoiseCriterion p s).products = s.products ∧ (readNoiseCriterion p s).lanes = s.lanes
    ∧ (readNoiseCriterion p s).screening = s.screening ∧ (readNoiseCriterion p s).auth = s.auth
    ∧ (readNoiseCriterion p s).sup.estopInput = s.sup.estopInput
    ∧ (readNoiseCriterion p s).sup.estopLatch = s.sup.estopLatch
    ∧ (readNoiseCriterion p s).sup.noticeBlock = s.sup.noticeBlock
    ∧ (readNoiseCriterion p s).sup.snapshots = s.sup.snapshots
    ∧ (readNoiseCriterion p s).sup.snapshotTime = s.sup.snapshotTime
    ∧ (readNoiseCriterion p s).sup.reportTimer = s.sup.reportTimer ∧ (readNoiseCriterion p s).cal = s.cal
    ∧ (readNoiseCriterion p s).link.receiver = s.link.receiver
    ∧ (readNoiseCriterion p s).link.gap = s.link.gap
    ∧ (readNoiseCriterion p s).link.station = s.link.station
    ∧ (readNoiseCriterion p s).link.rate = s.link.rate
    ∧ (readNoiseCriterion p s).link.pinAddress = s.link.pinAddress
    ∧ (readNoiseCriterion p s).link.pinRate = s.link.pinRate
    ∧ (readNoiseCriterion p s).link.reply = s.link.reply
    ∧ (readNoiseCriterion p s).link.lastTaken = s.link.lastTaken
    ∧ (readNoiseCriterion p s).link.acquirerUp = s.link.acquirerUp
    ∧ (readNoiseCriterion p s).pending = s.pending := by
  and_intros <;> (simp only [readNoiseCriterion]; repeat' split) <;> simp

@[simp] theorem markDegraded_keeps (p : Point) (s : State) :
    (markDegraded p s).clock = s.clock ∧ (markDegraded p s).site = s.site
    ∧ (markDegraded p s).products = s.products ∧ (markDegraded p s).lanes = s.lanes
    ∧ (markDegraded p s).screening = s.screening ∧ (markDegraded p s).auth.serial = s.auth.serial
    ∧ (markDegraded p s).auth.sales = s.auth.sales ∧ (markDegraded p s).pumps = s.pumps
    ∧ (markDegraded p s).sup = s.sup ∧ (markDegraded p s).cal = s.cal ∧ (markDegraded p s).link = s.link
    ∧ (markDegraded p s).pending = s.pending := by
  and_intros <;> (simp only [markDegraded]; repeat' split) <;> simp

@[simp] theorem declareLoss_keeps (p : Point) (o : CountOrder) (live : Channel) (s : State) :
    (declareLoss p o live s).clock = s.clock ∧ (declareLoss p o live s).site = s.site
    ∧ (declareLoss p o live s).products = s.products ∧ (declareLoss p o live s).lanes = s.lanes
    ∧ (declareLoss p o live s).screening = s.screening
    ∧ (declareLoss p o live s).auth.serial = s.auth.serial
    ∧ (declareLoss p o live s).auth.sales = s.auth.sales
    ∧ (declareLoss p o live s).sup.estopInput = s.sup.estopInput
    ∧ (declareLoss p o live s).sup.estopLatch = s.sup.estopLatch
    ∧ (declareLoss p o live s).sup.noticeBlock = s.sup.noticeBlock
    ∧ (declareLoss p o live s).sup.snapshots = s.sup.snapshots
    ∧ (declareLoss p o live s).sup.snapshotTime = s.sup.snapshotTime
    ∧ (declareLoss p o live s).sup.reportTimer = s.sup.reportTimer ∧ (declareLoss p o live s).cal = s.cal
    ∧ (declareLoss p o live s).link.receiver = s.link.receiver
    ∧ (declareLoss p o live s).link.gap = s.link.gap
    ∧ (declareLoss p o live s).link.station = s.link.station
    ∧ (declareLoss p o live s).link.rate = s.link.rate
    ∧ (declareLoss p o live s).link.pinAddress = s.link.pinAddress
    ∧ (declareLoss p o live s).link.pinRate = s.link.pinRate
    ∧ (declareLoss p o live s).link.reply = s.link.reply
    ∧ (declareLoss p o live s).link.lastTaken = s.link.lastTaken
    ∧ (declareLoss p o live s).link.acquirerUp = s.link.acquirerUp
    ∧ (declareLoss p o live s).pending = s.pending := by
  and_intros <;> simp [declareLoss, Nat.repeat, Config.channelLossCounts]

@[simp] theorem followLoss_keeps (p : Point) (o : CountOrder) (a b : Meter) (s : State) :
    (followLoss p o a b s).clock = s.clock ∧ (followLoss p o a b s).site = s.site
    ∧ (followLoss p o a b s).products = s.products ∧ (followLoss p o a b s).lanes = s.lanes
    ∧ (followLoss p o a b s).screening = s.screening ∧ (followLoss p o a b s).auth.serial = s.auth.serial
    ∧ (followLoss p o a b s).auth.sales = s.auth.sales
    ∧ (followLoss p o a b s).sup.estopInput = s.sup.estopInput
    ∧ (followLoss p o a b s).sup.estopLatch = s.sup.estopLatch
    ∧ (followLoss p o a b s).sup.noticeBlock = s.sup.noticeBlock
    ∧ (followLoss p o a b s).sup.snapshots = s.sup.snapshots
    ∧ (followLoss p o a b s).sup.snapshotTime = s.sup.snapshotTime
    ∧ (followLoss p o a b s).sup.reportTimer = s.sup.reportTimer ∧ (followLoss p o a b s).cal = s.cal
    ∧ (followLoss p o a b s).link.receiver = s.link.receiver ∧ (followLoss p o a b s).link.gap = s.link.gap
    ∧ (followLoss p o a b s).link.station = s.link.station ∧ (followLoss p o a b s).link.rate = s.link.rate
    ∧ (followLoss p o a b s).link.pinAddress = s.link.pinAddress
    ∧ (followLoss p o a b s).link.pinRate = s.link.pinRate
    ∧ (followLoss p o a b s).link.reply = s.link.reply
    ∧ (followLoss p o a b s).link.lastTaken = s.link.lastTaken
    ∧ (followLoss p o a b s).link.acquirerUp = s.link.acquirerUp
    ∧ (followLoss p o a b s).pending = s.pending := by
  and_intros <;> (simp only [followLoss]; repeat' split) <;> simp

@[simp] theorem countTransition_keeps (p : Point) (o : CountOrder) (m : Option Bool) (s : State) :
    (countTransition p o m s).clock = s.clock ∧ (countTransition p o m s).site = s.site
    ∧ (countTransition p o m s).products = s.products ∧ (countTransition p o m s).lanes = s.lanes
    ∧ (countTransition p o m s).screening = s.screening
    ∧ (countTransition p o m s).auth.serial = s.auth.serial
    ∧ (countTransition p o m s).auth.sales = s.auth.sales
    ∧ (countTransition p o m s).sup.estopInput = s.sup.estopInput
    ∧ (countTransition p o m s).sup.estopLatch = s.sup.estopLatch
    ∧ (countTransition p o m s).sup.noticeBlock = s.sup.noticeBlock
    ∧ (countTransition p o m s).sup.snapshots = s.sup.snapshots
    ∧ (countTransition p o m s).sup.snapshotTime = s.sup.snapshotTime
    ∧ (countTransition p o m s).sup.reportTimer = s.sup.reportTimer ∧ (countTransition p o m s).cal = s.cal
    ∧ (countTransition p o m s).link.receiver = s.link.receiver
    ∧ (countTransition p o m s).link.gap = s.link.gap
    ∧ (countTransition p o m s).link.station = s.link.station
    ∧ (countTransition p o m s).link.rate = s.link.rate
    ∧ (countTransition p o m s).link.pinAddress = s.link.pinAddress
    ∧ (countTransition p o m s).link.pinRate = s.link.pinRate
    ∧ (countTransition p o m s).link.reply = s.link.reply
    ∧ (countTransition p o m s).link.lastTaken = s.link.lastTaken
    ∧ (countTransition p o m s).link.acquirerUp = s.link.acquirerUp
    ∧ (countTransition p o m s).pending = s.pending := by
  and_intros <;> (simp only [countTransition]; repeat' split) <;> simp

@[simp] theorem countPhase_keeps (p : Point) (a : Turn) (s : State) :
    (countPhase p a s).clock = s.clock ∧ (countPhase p a s).site = s.site
    ∧ (countPhase p a s).products = s.products ∧ (countPhase p a s).lanes = s.lanes
    ∧ (countPhase p a s).screening = s.screening ∧ (countPhase p a s).auth = s.auth
    ∧ (countPhase p a s).points = s.points ∧ (countPhase p a s).pumps = s.pumps
    ∧ (countPhase p a s).sup.estopInput = s.sup.estopInput
    ∧ (countPhase p a s).sup.estopLatch = s.sup.estopLatch
    ∧ (countPhase p a s).sup.noticeBlock = s.sup.noticeBlock
    ∧ (countPhase p a s).sup.snapshots = s.sup.snapshots
    ∧ (countPhase p a s).sup.snapshotTime = s.sup.snapshotTime
    ∧ (countPhase p a s).sup.reportTimer = s.sup.reportTimer ∧ (countPhase p a s).cal = s.cal
    ∧ (countPhase p a s).link.receiver = s.link.receiver ∧ (countPhase p a s).link.gap = s.link.gap
    ∧ (countPhase p a s).link.station = s.link.station ∧ (countPhase p a s).link.rate = s.link.rate
    ∧ (countPhase p a s).link.pinAddress = s.link.pinAddress
    ∧ (countPhase p a s).link.pinRate = s.link.pinRate ∧ (countPhase p a s).link.reply = s.link.reply
    ∧ (countPhase p a s).link.lastTaken = s.link.lastTaken
    ∧ (countPhase p a s).link.acquirerUp = s.link.acquirerUp ∧ (countPhase p a s).pending = s.pending := by
  and_intros <;> (simp only [countPhase]; repeat' split) <;> simp

@[simp] theorem transition_keeps (p : Point) (v : Pair) (o : CountOrder) (s : State) :
    (transition p v o s).clock = s.clock ∧ (transition p v o s).site = s.site
    ∧ (transition p v o s).products = s.products ∧ (transition p v o s).lanes = s.lanes
    ∧ (transition p v o s).screening = s.screening ∧ (transition p v o s).auth.serial = s.auth.serial
    ∧ (transition p v o s).auth.sales = s.auth.sales
    ∧ (transition p v o s).sup.estopInput = s.sup.estopInput
    ∧ (transition p v o s).sup.estopLatch = s.sup.estopLatch
    ∧ (transition p v o s).sup.noticeBlock = s.sup.noticeBlock
    ∧ (transition p v o s).sup.snapshots = s.sup.snapshots
    ∧ (transition p v o s).sup.snapshotTime = s.sup.snapshotTime
    ∧ (transition p v o s).sup.reportTimer = s.sup.reportTimer ∧ (transition p v o s).cal = s.cal
    ∧ (transition p v o s).link.receiver = s.link.receiver ∧ (transition p v o s).link.gap = s.link.gap
    ∧ (transition p v o s).link.station = s.link.station ∧ (transition p v o s).link.rate = s.link.rate
    ∧ (transition p v o s).link.pinAddress = s.link.pinAddress
    ∧ (transition p v o s).link.pinRate = s.link.pinRate ∧ (transition p v o s).link.reply = s.link.reply
    ∧ (transition p v o s).link.lastTaken = s.link.lastTaken
    ∧ (transition p v o s).link.acquirerUp = s.link.acquirerUp ∧ (transition p v o s).pending = s.pending := by
  and_intros <;> (simp only [transition]; repeat' split) <;> simp

/-! ### Equipment, timers and reports -/

@[simp] theorem setNozzle_keeps (p : Point) (a : Nozzle) (s : State) :
    (setNozzle p a s).clock = s.clock ∧ (setNozzle p a s).site = s.site
    ∧ (setNozzle p a s).products = s.products ∧ (setNozzle p a s).lanes = s.lanes
    ∧ (setNozzle p a s).screening = s.screening ∧ (setNozzle p a s).auth = s.auth
    ∧ (setNozzle p a s).pumps = s.pumps ∧ (setNozzle p a s).sup = s.sup ∧ (setNozzle p a s).cal = s.cal
    ∧ (setNozzle p a s).link = s.link ∧ (setNozzle p a s).pending = s.pending := by
  and_intros <;> (simp only [setNozzle]; repeat' split) <;> simp

@[simp] theorem setInputPair_keeps (p : Point) (v : Pair) (s : State) :
    (setInputPair p v s).clock = s.clock ∧ (setInputPair p v s).site = s.site
    ∧ (setInputPair p v s).products = s.products ∧ (setInputPair p v s).lanes = s.lanes
    ∧ (setInputPair p v s).screening = s.screening ∧ (setInputPair p v s).auth = s.auth
    ∧ (setInputPair p v s).pumps = s.pumps ∧ (setInputPair p v s).sup = s.sup
    ∧ (setInputPair p v s).cal = s.cal ∧ (setInputPair p v s).link = s.link
    ∧ (setInputPair p v s).pending = s.pending := by
  and_intros <;> (simp only [setInputPair]; repeat' split) <;> simp

@[simp] theorem liftAt_keeps (p : Point) (s : State) :
    (liftAt p s).clock = s.clock ∧ (liftAt p s).site = s.site ∧ (liftAt p s).products = s.products
    ∧ (liftAt p s).lanes = s.lanes ∧ (liftAt p s).screening = s.screening
    ∧ (liftAt p s).auth.serial = s.auth.serial ∧ (liftAt p s).auth.sales = s.auth.sales
    ∧ (liftAt p s).sup = s.sup ∧ (liftAt p s).cal = s.cal ∧ (liftAt p s).link.receiver = s.link.receiver
    ∧ (liftAt p s).link.gap = s.link.gap ∧ (liftAt p s).link.station = s.link.station
    ∧ (liftAt p s).link.rate = s.link.rate ∧ (liftAt p s).link.pinAddress = s.link.pinAddress
    ∧ (liftAt p s).link.pinRate = s.link.pinRate ∧ (liftAt p s).link.reply = s.link.reply
    ∧ (liftAt p s).link.lastTaken = s.link.lastTaken ∧ (liftAt p s).link.acquirerUp = s.link.acquirerUp
    ∧ (liftAt p s).pending = s.pending := by
  and_intros <;> (simp only [liftAt]; repeat' split) <;> simp

@[simp] theorem hangUpDelivery_keeps (p : Point) (s : State) :
    (hangUpDelivery p s).clock = s.clock ∧ (hangUpDelivery p s).site = s.site
    ∧ (hangUpDelivery p s).products = s.products ∧ (hangUpDelivery p s).lanes = s.lanes
    ∧ (hangUpDelivery p s).screening = s.screening ∧ (hangUpDelivery p s).auth = s.auth
    ∧ (hangUpDelivery p s).sup = s.sup ∧ (hangUpDelivery p s).cal = s.cal
    ∧ (hangUpDelivery p s).link.receiver = s.link.receiver ∧ (hangUpDelivery p s).link.gap = s.link.gap
    ∧ (hangUpDelivery p s).link.station = s.link.station ∧ (hangUpDelivery p s).link.rate = s.link.rate
    ∧ (hangUpDelivery p s).link.pinAddress = s.link.pinAddress
    ∧ (hangUpDelivery p s).link.pinRate = s.link.pinRate ∧ (hangUpDelivery p s).link.reply = s.link.reply
    ∧ (hangUpDelivery p s).link.lastTaken = s.link.lastTaken
    ∧ (hangUpDelivery p s).link.acquirerUp = s.link.acquirerUp ∧ (hangUpDelivery p s).pending = s.pending := by
  and_intros <;> (simp only [hangUpDelivery]; repeat' split) <;> simp

@[simp] theorem endBound_keeps (p : Point) (s : State) :
    (endBound p s).clock = s.clock ∧ (endBound p s).site = s.site ∧ (endBound p s).products = s.products
    ∧ (endBound p s).lanes = s.lanes ∧ (endBound p s).screening = s.screening
    ∧ (endBound p s).auth = s.auth ∧ (endBound p s).pumps = s.pumps ∧ (endBound p s).sup = s.sup
    ∧ (endBound p s).cal = s.cal ∧ (endBound p s).link = s.link ∧ (endBound p s).pending = s.pending := by
  and_intros <;> (simp only [endBound]; repeat' split) <;> simp

@[simp] theorem hangUpRun_keeps (p : Point) (s : State) :
    (hangUpRun p s).clock = s.clock ∧ (hangUpRun p s).site = s.site ∧ (hangUpRun p s).products = s.products
    ∧ (hangUpRun p s).lanes = s.lanes ∧ (hangUpRun p s).screening = s.screening
    ∧ (hangUpRun p s).auth = s.auth ∧ (hangUpRun p s).sup = s.sup ∧ (hangUpRun p s).cal = s.cal
    ∧ (hangUpRun p s).link.receiver = s.link.receiver ∧ (hangUpRun p s).link.gap = s.link.gap
    ∧ (hangUpRun p s).link.station = s.link.station ∧ (hangUpRun p s).link.rate = s.link.rate
    ∧ (hangUpRun p s).link.pinAddress = s.link.pinAddress ∧ (hangUpRun p s).link.pinRate = s.link.pinRate
    ∧ (hangUpRun p s).link.reply = s.link.reply ∧ (hangUpRun p s).link.lastTaken = s.link.lastTaken
    ∧ (hangUpRun p s).link.acquirerUp = s.link.acquirerUp ∧ (hangUpRun p s).pending = s.pending := by
  and_intros <;> (simp only [hangUpRun]; repeat' split) <;> simp

@[simp] theorem hangUpAt_keeps (p : Point) (s : State) :
    (hangUpAt p s).clock = s.clock ∧ (hangUpAt p s).site = s.site ∧ (hangUpAt p s).products = s.products
    ∧ (hangUpAt p s).lanes = s.lanes ∧ (hangUpAt p s).screening.profiles = s.screening.profiles
    ∧ (hangUpAt p s).screening.valid = s.screening.valid
    ∧ (hangUpAt p s).screening.hotList = s.screening.hotList ∧ (hangUpAt p s).auth.serial = s.auth.serial
    ∧ (hangUpAt p s).sup.estopInput = s.sup.estopInput ∧ (hangUpAt p s).sup.estopLatch = s.sup.estopLatch
    ∧ (hangUpAt p s).sup.noticeBlock = s.sup.noticeBlock ∧ (hangUpAt p s).sup.snapshots = s.sup.snapshots
    ∧ (hangUpAt p s).sup.snapshotTime = s.sup.snapshotTime
    ∧ (hangUpAt p s).sup.reportTimer = s.sup.reportTimer ∧ (hangUpAt p s).cal = s.cal
    ∧ (hangUpAt p s).link.receiver = s.link.receiver ∧ (hangUpAt p s).link.gap = s.link.gap
    ∧ (hangUpAt p s).link.station = s.link.station ∧ (hangUpAt p s).link.rate = s.link.rate
    ∧ (hangUpAt p s).link.pinAddress = s.link.pinAddress ∧ (hangUpAt p s).link.pinRate = s.link.pinRate
    ∧ (hangUpAt p s).link.reply = s.link.reply ∧ (hangUpAt p s).link.lastTaken = s.link.lastTaken
    ∧ (hangUpAt p s).link.acquirerUp = s.link.acquirerUp ∧ (hangUpAt p s).pending = s.pending := by
  and_intros <;> (simp only [hangUpAt]; repeat' split) <;> simp

@[simp] theorem noFlowCause_keeps (p : Point) (s : State) :
    (noFlowCause p s).clock = s.clock ∧ (noFlowCause p s).site = s.site
    ∧ (noFlowCause p s).products = s.products ∧ (noFlowCause p s).lanes = s.lanes
    ∧ (noFlowCause p s).screening = s.screening ∧ (noFlowCause p s).auth = s.auth
    ∧ (noFlowCause p s).sup = s.sup ∧ (noFlowCause p s).cal = s.cal
    ∧ (noFlowCause p s).link.receiver = s.link.receiver ∧ (noFlowCause p s).link.gap = s.link.gap
    ∧ (noFlowCause p s).link.station = s.link.station ∧ (noFlowCause p s).link.rate = s.link.rate
    ∧ (noFlowCause p s).link.pinAddress = s.link.pinAddress
    ∧ (noFlowCause p s).link.pinRate = s.link.pinRate ∧ (noFlowCause p s).link.reply = s.link.reply
    ∧ (noFlowCause p s).link.lastTaken = s.link.lastTaken
    ∧ (noFlowCause p s).link.acquirerUp = s.link.acquirerUp ∧ (noFlowCause p s).pending = s.pending := by
  and_intros <;> (simp only [noFlowCause]; repeat' split) <;> simp

@[simp] theorem closeAllValves_keeps (s : State) :
    (closeAllValves s).clock = s.clock ∧ (closeAllValves s).site = s.site
    ∧ (closeAllValves s).products = s.products ∧ (closeAllValves s).lanes = s.lanes
    ∧ (closeAllValves s).screening = s.screening ∧ (closeAllValves s).auth = s.auth
    ∧ (closeAllValves s).pumps = s.pumps ∧ (closeAllValves s).sup = s.sup ∧ (closeAllValves s).cal = s.cal
    ∧ (closeAllValves s).link = s.link ∧ (closeAllValves s).pending = s.pending := by
  and_intros <;> (simp only [closeAllValves]; repeat' split) <;> simp

@[simp] theorem estopPumps_keeps (s : State) :
    (estopPumps s).clock = s.clock ∧ (estopPumps s).site = s.site ∧ (estopPumps s).products = s.products
    ∧ (estopPumps s).lanes = s.lanes ∧ (estopPumps s).screening = s.screening
    ∧ (estopPumps s).auth = s.auth ∧ (estopPumps s).points = s.points ∧ (estopPumps s).sup = s.sup
    ∧ (estopPumps s).cal = s.cal ∧ (estopPumps s).link = s.link ∧ (estopPumps s).pending = s.pending := by
  and_intros <;> (simp only [estopPumps]; repeat' split) <;> simp

@[simp] theorem estopPoint_keeps (p : Point) (s : State) :
    (estopPoint p s).clock = s.clock ∧ (estopPoint p s).site = s.site
    ∧ (estopPoint p s).products = s.products ∧ (estopPoint p s).lanes = s.lanes
    ∧ (estopPoint p s).screening = s.screening ∧ (estopPoint p s).auth = s.auth
    ∧ (estopPoint p s).sup = s.sup ∧ (estopPoint p s).cal = s.cal
    ∧ (estopPoint p s).link.receiver = s.link.receiver ∧ (estopPoint p s).link.gap = s.link.gap
    ∧ (estopPoint p s).link.station = s.link.station ∧ (estopPoint p s).link.rate = s.link.rate
    ∧ (estopPoint p s).link.pinAddress = s.link.pinAddress ∧ (estopPoint p s).link.pinRate = s.link.pinRate
    ∧ (estopPoint p s).link.reply = s.link.reply ∧ (estopPoint p s).link.lastTaken = s.link.lastTaken
    ∧ (estopPoint p s).link.acquirerUp = s.link.acquirerUp ∧ (estopPoint p s).pending = s.pending := by
  and_intros <;> (simp only [estopPoint]; repeat' split) <;> simp

@[simp] theorem estopPoints_keeps (s : State) :
    (estopPoints s).clock = s.clock ∧ (estopPoints s).site = s.site ∧ (estopPoints s).products = s.products
    ∧ (estopPoints s).lanes = s.lanes ∧ (estopPoints s).screening = s.screening
    ∧ (estopPoints s).auth = s.auth ∧ (estopPoints s).sup = s.sup ∧ (estopPoints s).cal = s.cal
    ∧ (estopPoints s).link.receiver = s.link.receiver ∧ (estopPoints s).link.gap = s.link.gap
    ∧ (estopPoints s).link.station = s.link.station ∧ (estopPoints s).link.rate = s.link.rate
    ∧ (estopPoints s).link.pinAddress = s.link.pinAddress ∧ (estopPoints s).link.pinRate = s.link.pinRate
    ∧ (estopPoints s).link.reply = s.link.reply ∧ (estopPoints s).link.lastTaken = s.link.lastTaken
    ∧ (estopPoints s).link.acquirerUp = s.link.acquirerUp ∧ (estopPoints s).pending = s.pending := by
  and_intros <;> (simp only [estopPoints]; repeat' split) <;> simp

@[simp] theorem estopFree_keeps (k : Slot) (s : State) :
    (estopFree k s).clock = s.clock ∧ (estopFree k s).site = s.site ∧ (estopFree k s).products = s.products
    ∧ (estopFree k s).lanes = s.lanes ∧ (estopFree k s).screening = s.screening
    ∧ (estopFree k s).auth.serial = s.auth.serial ∧ (estopFree k s).auth.sales = s.auth.sales
    ∧ (estopFree k s).points = s.points ∧ (estopFree k s).pumps = s.pumps ∧ (estopFree k s).sup = s.sup
    ∧ (estopFree k s).cal = s.cal ∧ (estopFree k s).link.receiver = s.link.receiver
    ∧ (estopFree k s).link.gap = s.link.gap ∧ (estopFree k s).link.station = s.link.station
    ∧ (estopFree k s).link.rate = s.link.rate ∧ (estopFree k s).link.pinAddress = s.link.pinAddress
    ∧ (estopFree k s).link.pinRate = s.link.pinRate ∧ (estopFree k s).link.reply = s.link.reply
    ∧ (estopFree k s).link.lastTaken = s.link.lastTaken
    ∧ (estopFree k s).link.acquirerUp = s.link.acquirerUp ∧ (estopFree k s).pending = s.pending := by
  and_intros <;> (simp only [estopFree]; repeat' split) <;> simp

@[simp] theorem estopSettle_keeps (k : Slot) (s : State) :
    (estopSettle k s).clock = s.clock ∧ (estopSettle k s).site = s.site
    ∧ (estopSettle k s).products = s.products ∧ (estopSettle k s).lanes = s.lanes
    ∧ (estopSettle k s).screening.profiles = s.screening.profiles
    ∧ (estopSettle k s).screening.valid = s.screening.valid
    ∧ (estopSettle k s).screening.hotList = s.screening.hotList
    ∧ (estopSettle k s).auth.serial = s.auth.serial ∧ (estopSettle k s).points = s.points
    ∧ (estopSettle k s).pumps = s.pumps ∧ (estopSettle k s).sup = s.sup ∧ (estopSettle k s).cal = s.cal
    ∧ (estopSettle k s).link.receiver = s.link.receiver ∧ (estopSettle k s).link.gap = s.link.gap
    ∧ (estopSettle k s).link.station = s.link.station ∧ (estopSettle k s).link.rate = s.link.rate
    ∧ (estopSettle k s).link.pinAddress = s.link.pinAddress
    ∧ (estopSettle k s).link.pinRate = s.link.pinRate ∧ (estopSettle k s).link.reply = s.link.reply
    ∧ (estopSettle k s).link.lastTaken = s.link.lastTaken
    ∧ (estopSettle k s).link.acquirerUp = s.link.acquirerUp ∧ (estopSettle k s).pending = s.pending := by
  and_intros <;> (simp only [estopSettle]; repeat' split) <;> simp

@[simp] theorem estopRecords_keeps (s : State) :
    (estopRecords s).clock = s.clock ∧ (estopRecords s).site = s.site
    ∧ (estopRecords s).products = s.products ∧ (estopRecords s).lanes = s.lanes
    ∧ (estopRecords s).screening.profiles = s.screening.profiles
    ∧ (estopRecords s).screening.valid = s.screening.valid
    ∧ (estopRecords s).screening.hotList = s.screening.hotList
    ∧ (estopRecords s).auth.serial = s.auth.serial ∧ (estopRecords s).points = s.points
    ∧ (estopRecords s).pumps = s.pumps ∧ (estopRecords s).sup = s.sup ∧ (estopRecords s).cal = s.cal
    ∧ (estopRecords s).link.receiver = s.link.receiver ∧ (estopRecords s).link.gap = s.link.gap
    ∧ (estopRecords s).link.station = s.link.station ∧ (estopRecords s).link.rate = s.link.rate
    ∧ (estopRecords s).link.pinAddress = s.link.pinAddress ∧ (estopRecords s).link.pinRate = s.link.pinRate
    ∧ (estopRecords s).link.reply = s.link.reply ∧ (estopRecords s).link.lastTaken = s.link.lastTaken
    ∧ (estopRecords s).link.acquirerUp = s.link.acquirerUp ∧ (estopRecords s).pending = s.pending := by
  and_intros <;> (simp only [estopRecords]; repeat' split) <;> simp

@[simp] theorem startReadyWait_keeps (k : Pump) (s : State) :
    (startReadyWait k s).clock = s.clock ∧ (startReadyWait k s).site = s.site
    ∧ (startReadyWait k s).products = s.products ∧ (startReadyWait k s).lanes = s.lanes
    ∧ (startReadyWait k s).screening = s.screening ∧ (startReadyWait k s).auth = s.auth
    ∧ (startReadyWait k s).points = s.points ∧ (startReadyWait k s).sup = s.sup
    ∧ (startReadyWait k s).cal = s.cal ∧ (startReadyWait k s).link = s.link
    ∧ (startReadyWait k s).pending = s.pending := by
  and_intros <;> (simp only [startReadyWait]; repeat' split) <;> simp

@[simp] theorem reportPoint_keeps (p : Point) (s : State) :
    (reportPoint p s).clock = s.clock ∧ (reportPoint p s).site = s.site
    ∧ (reportPoint p s).products = s.products ∧ (reportPoint p s).lanes = s.lanes
    ∧ (reportPoint p s).screening = s.screening ∧ (reportPoint p s).auth = s.auth
    ∧ (reportPoint p s).points = s.points ∧ (reportPoint p s).pumps = s.pumps
    ∧ (reportPoint p s).sup = s.sup ∧ (reportPoint p s).cal = s.cal
    ∧ (reportPoint p s).link.receiver = s.link.receiver ∧ (reportPoint p s).link.gap = s.link.gap
    ∧ (reportPoint p s).link.station = s.link.station ∧ (reportPoint p s).link.rate = s.link.rate
    ∧ (reportPoint p s).link.pinAddress = s.link.pinAddress
    ∧ (reportPoint p s).link.pinRate = s.link.pinRate ∧ (reportPoint p s).link.reply = s.link.reply
    ∧ (reportPoint p s).link.lastTaken = s.link.lastTaken
    ∧ (reportPoint p s).link.acquirerUp = s.link.acquirerUp ∧ (reportPoint p s).pending = s.pending := by
  and_intros <;> (simp only [reportPoint]; repeat' split) <;> simp

/-! ### Requests -/

@[simp] theorem expireOnline_keeps (k : Slot) (s : State) :
    (expireOnline k s).clock = s.clock ∧ (expireOnline k s).site = s.site
    ∧ (expireOnline k s).products = s.products ∧ (expireOnline k s).lanes = s.lanes
    ∧ (expireOnline k s).screening = s.screening ∧ (expireOnline k s).auth.serial = s.auth.serial
    ∧ (expireOnline k s).auth.sales = s.auth.sales ∧ (expireOnline k s).sup = s.sup
    ∧ (expireOnline k s).cal = s.cal ∧ (expireOnline k s).link.receiver = s.link.receiver
    ∧ (expireOnline k s).link.gap = s.link.gap ∧ (expireOnline k s).link.station = s.link.station
    ∧ (expireOnline k s).link.rate = s.link.rate ∧ (expireOnline k s).link.pinAddress = s.link.pinAddress
    ∧ (expireOnline k s).link.pinRate = s.link.pinRate ∧ (expireOnline k s).link.reply = s.link.reply
    ∧ (expireOnline k s).link.lastTaken = s.link.lastTaken
    ∧ (expireOnline k s).link.acquirerUp = s.link.acquirerUp ∧ (expireOnline k s).pending = s.pending := by
  and_intros <;> (simp only [expireOnline]; repeat' split) <;> simp

@[simp] theorem returnToService_keeps (p : Point) (s : State) :
    (returnToService p s).clock = s.clock ∧ (returnToService p s).site = s.site
    ∧ (returnToService p s).products = s.products ∧ (returnToService p s).lanes = s.lanes
    ∧ (returnToService p s).screening = s.screening ∧ (returnToService p s).auth.serial = s.auth.serial
    ∧ (returnToService p s).auth.sales = s.auth.sales ∧ (returnToService p s).sup = s.sup
    ∧ (returnToService p s).cal = s.cal ∧ (returnToService p s).link.receiver = s.link.receiver
    ∧ (returnToService p s).link.gap = s.link.gap ∧ (returnToService p s).link.station = s.link.station
    ∧ (returnToService p s).link.rate = s.link.rate
    ∧ (returnToService p s).link.pinAddress = s.link.pinAddress
    ∧ (returnToService p s).link.pinRate = s.link.pinRate ∧ (returnToService p s).link.reply = s.link.reply
    ∧ (returnToService p s).link.lastTaken = s.link.lastTaken
    ∧ (returnToService p s).link.acquirerUp = s.link.acquirerUp ∧ (returnToService p s).pending = s.pending := by
  and_intros <;> (simp only [returnToService]; repeat' split) <;> simp

@[simp] theorem leaveProving_keeps (p : Point) (s : State) :
    (leaveProving p s).clock = s.clock ∧ (leaveProving p s).site = s.site
    ∧ (leaveProving p s).products = s.products ∧ (leaveProving p s).lanes = s.lanes
    ∧ (leaveProving p s).screening = s.screening ∧ (leaveProving p s).auth.serial = s.auth.serial
    ∧ (leaveProving p s).auth.sales = s.auth.sales ∧ (leaveProving p s).sup = s.sup
    ∧ (leaveProving p s).cal = s.cal ∧ (leaveProving p s).link.receiver = s.link.receiver
    ∧ (leaveProving p s).link.gap = s.link.gap ∧ (leaveProving p s).link.station = s.link.station
    ∧ (leaveProving p s).link.rate = s.link.rate ∧ (leaveProving p s).link.pinAddress = s.link.pinAddress
    ∧ (leaveProving p s).link.pinRate = s.link.pinRate ∧ (leaveProving p s).link.reply = s.link.reply
    ∧ (leaveProving p s).link.lastTaken = s.link.lastTaken
    ∧ (leaveProving p s).link.acquirerUp = s.link.acquirerUp ∧ (leaveProving p s).pending = s.pending := by
  and_intros <;> (simp only [leaveProving]; repeat' split) <;> simp

@[simp] theorem startProving_keeps (p : Point) (s : State) :
    (startProving p s).clock = s.clock ∧ (startProving p s).site = s.site
    ∧ (startProving p s).products = s.products ∧ (startProving p s).lanes = s.lanes
    ∧ (startProving p s).screening = s.screening ∧ (startProving p s).auth = s.auth
    ∧ (startProving p s).sup = s.sup ∧ (startProving p s).cal = s.cal
    ∧ (startProving p s).link.receiver = s.link.receiver ∧ (startProving p s).link.gap = s.link.gap
    ∧ (startProving p s).link.station = s.link.station ∧ (startProving p s).link.rate = s.link.rate
    ∧ (startProving p s).link.pinAddress = s.link.pinAddress
    ∧ (startProving p s).link.pinRate = s.link.pinRate ∧ (startProving p s).link.reply = s.link.reply
    ∧ (startProving p s).link.lastTaken = s.link.lastTaken
    ∧ (startProving p s).link.acquirerUp = s.link.acquirerUp ∧ (startProving p s).pending = s.pending := by
  and_intros <;> (simp only [startProving]; repeat' split) <;> simp

@[simp] theorem stopRun_keeps (p : Point) (s : State) :
    (stopRun p s).clock = s.clock ∧ (stopRun p s).site = s.site ∧ (stopRun p s).products = s.products
    ∧ (stopRun p s).lanes = s.lanes ∧ (stopRun p s).screening = s.screening
    ∧ (stopRun p s).auth.serial = s.auth.serial ∧ (stopRun p s).auth.sales = s.auth.sales
    ∧ (stopRun p s).sup = s.sup ∧ (stopRun p s).cal = s.cal ∧ (stopRun p s).link.receiver = s.link.receiver
    ∧ (stopRun p s).link.gap = s.link.gap ∧ (stopRun p s).link.station = s.link.station
    ∧ (stopRun p s).link.rate = s.link.rate ∧ (stopRun p s).link.pinAddress = s.link.pinAddress
    ∧ (stopRun p s).link.pinRate = s.link.pinRate ∧ (stopRun p s).link.reply = s.link.reply
    ∧ (stopRun p s).link.lastTaken = s.link.lastTaken ∧ (stopRun p s).link.acquirerUp = s.link.acquirerUp
    ∧ (stopRun p s).pending = s.pending := by
  and_intros <;> (simp only [stopRun]; repeat' split) <;> simp

@[simp] theorem followFitting_keeps (a b : Bool) (p : Point) (s : State) :
    (followFitting a b p s).clock = s.clock ∧ (followFitting a b p s).site = s.site
    ∧ (followFitting a b p s).products = s.products ∧ (followFitting a b p s).lanes = s.lanes
    ∧ (followFitting a b p s).screening = s.screening ∧ (followFitting a b p s).auth = s.auth
    ∧ (followFitting a b p s).pumps = s.pumps ∧ (followFitting a b p s).sup = s.sup
    ∧ (followFitting a b p s).cal = s.cal ∧ (followFitting a b p s).link = s.link
    ∧ (followFitting a b p s).pending = s.pending := by
  and_intros <;> (simp only [followFitting]; repeat' split) <;> simp

@[simp] theorem applyLane_keeps (k : Lane) (e : LaneConfig) (s : State) :
    (applyLane k e s).clock = s.clock ∧ (applyLane k e s).site = s.site
    ∧ (applyLane k e s).products = s.products ∧ (applyLane k e s).screening = s.screening
    ∧ (applyLane k e s).auth = s.auth ∧ (applyLane k e s).pumps = s.pumps ∧ (applyLane k e s).sup = s.sup
    ∧ (applyLane k e s).cal = s.cal ∧ (applyLane k e s).link = s.link
    ∧ (applyLane k e s).pending = s.pending := by
  and_intros <;> (simp only [applyLane]; repeat' split) <;> simp

@[simp] theorem calibrate_keeps (p : Point) (a : CalSource) (e : Calibration) (s : State) :
    (calibrate p a e s).clock = s.clock ∧ (calibrate p a e s).site = s.site
    ∧ (calibrate p a e s).products = s.products ∧ (calibrate p a e s).lanes = s.lanes
    ∧ (calibrate p a e s).screening = s.screening ∧ (calibrate p a e s).auth = s.auth
    ∧ (calibrate p a e s).pumps = s.pumps ∧ (calibrate p a e s).sup = s.sup
    ∧ (calibrate p a e s).link.receiver = s.link.receiver ∧ (calibrate p a e s).link.gap = s.link.gap
    ∧ (calibrate p a e s).link.station = s.link.station ∧ (calibrate p a e s).link.rate = s.link.rate
    ∧ (calibrate p a e s).link.pinAddress = s.link.pinAddress
    ∧ (calibrate p a e s).link.pinRate = s.link.pinRate ∧ (calibrate p a e s).link.reply = s.link.reply
    ∧ (calibrate p a e s).link.lastTaken = s.link.lastTaken
    ∧ (calibrate p a e s).link.acquirerUp = s.link.acquirerUp ∧ (calibrate p a e s).pending = s.pending := by
  and_intros <;> (simp only [calibrate]; repeat' split) <;> simp

@[simp] theorem storePointConfig_keeps (p : Point) (e : PointConfig) (s : State) :
    (storePointConfig p e s).clock = s.clock ∧ (storePointConfig p e s).site = s.site
    ∧ (storePointConfig p e s).products = s.products ∧ (storePointConfig p e s).lanes = s.lanes
    ∧ (storePointConfig p e s).screening = s.screening ∧ (storePointConfig p e s).auth = s.auth
    ∧ (storePointConfig p e s).pumps = s.pumps ∧ (storePointConfig p e s).sup = s.sup
    ∧ (storePointConfig p e s).cal = s.cal ∧ (storePointConfig p e s).link = s.link
    ∧ (storePointConfig p e s).pending = s.pending := by
  and_intros <;> (simp only [storePointConfig]; repeat' split) <;> simp

@[simp] theorem changeEntry_keeps (e : CardNumber) (f : HistoryEntry → HistoryEntry) (s : State) :
    (changeEntry e f s).clock = s.clock ∧ (changeEntry e f s).site = s.site
    ∧ (changeEntry e f s).products = s.products ∧ (changeEntry e f s).lanes = s.lanes
    ∧ (changeEntry e f s).screening.profiles = s.screening.profiles
    ∧ (changeEntry e f s).screening.valid = s.screening.valid
    ∧ (changeEntry e f s).screening.hotList = s.screening.hotList ∧ (changeEntry e f s).auth = s.auth
    ∧ (changeEntry e f s).points = s.points ∧ (changeEntry e f s).pumps = s.pumps
    ∧ (changeEntry e f s).sup = s.sup ∧ (changeEntry e f s).cal = s.cal ∧ (changeEntry e f s).link = s.link
    ∧ (changeEntry e f s).pending = s.pending := by
  and_intros <;> (simp only [changeEntry]; repeat' split) <;> simp

@[simp] theorem modCells_keeps (a : AlarmSubject) (f : AlarmCell → AlarmCell) (s : State) :
    (modCells a f s).clock = s.clock ∧ (modCells a f s).site = s.site
    ∧ (modCells a f s).products = s.products ∧ (modCells a f s).lanes = s.lanes
    ∧ (modCells a f s).screening = s.screening ∧ (modCells a f s).auth = s.auth
    ∧ (modCells a f s).points = s.points ∧ (modCells a f s).pumps = s.pumps
    ∧ (modCells a f s).sup.estopInput = s.sup.estopInput
    ∧ (modCells a f s).sup.estopLatch = s.sup.estopLatch
    ∧ (modCells a f s).sup.noticeBlock = s.sup.noticeBlock
    ∧ (modCells a f s).sup.snapshots = s.sup.snapshots
    ∧ (modCells a f s).sup.snapshotTime = s.sup.snapshotTime
    ∧ (modCells a f s).sup.reportTimer = s.sup.reportTimer ∧ (modCells a f s).cal = s.cal
    ∧ (modCells a f s).link = s.link ∧ (modCells a f s).pending = s.pending := by
  and_intros <;> (simp only [modCells]; repeat' split) <;> simp

@[simp] theorem clearUnauthorised_keeps (a : AlarmSubject) (s : State) :
    (clearUnauthorised a s).clock = s.clock ∧ (clearUnauthorised a s).site = s.site
    ∧ (clearUnauthorised a s).products = s.products ∧ (clearUnauthorised a s).lanes = s.lanes
    ∧ (clearUnauthorised a s).screening = s.screening ∧ (clearUnauthorised a s).auth = s.auth
    ∧ (clearUnauthorised a s).pumps = s.pumps ∧ (clearUnauthorised a s).sup = s.sup
    ∧ (clearUnauthorised a s).cal = s.cal ∧ (clearUnauthorised a s).link = s.link
    ∧ (clearUnauthorised a s).pending = s.pending := by
  and_intros <;> (simp only [clearUnauthorised]; repeat' split) <;> simp

@[simp] theorem removeSale_keeps (k : Slot) (m : Nat) (s : State) :
    (removeSale k m s).clock = s.clock ∧ (removeSale k m s).site = s.site
    ∧ (removeSale k m s).products = s.products ∧ (removeSale k m s).lanes = s.lanes
    ∧ (removeSale k m s).screening = s.screening ∧ (removeSale k m s).auth.serial = s.auth.serial
    ∧ (removeSale k m s).points = s.points ∧ (removeSale k m s).pumps = s.pumps
    ∧ (removeSale k m s).sup = s.sup ∧ (removeSale k m s).cal = s.cal ∧ (removeSale k m s).link = s.link
    ∧ (removeSale k m s).pending = s.pending := by
  and_intros <;> (simp only [removeSale]; repeat' split) <;> simp

@[simp] theorem softStopBound_keeps (a : AuthRecord) (r : EndReason) (s : State) :
    (softStopBound a r s).clock = s.clock ∧ (softStopBound a r s).site = s.site
    ∧ (softStopBound a r s).products = s.products ∧ (softStopBound a r s).lanes = s.lanes
    ∧ (softStopBound a r s).screening = s.screening ∧ (softStopBound a r s).auth = s.auth
    ∧ (softStopBound a r s).sup = s.sup ∧ (softStopBound a r s).cal = s.cal
    ∧ (softStopBound a r s).link.receiver = s.link.receiver ∧ (softStopBound a r s).link.gap = s.link.gap
    ∧ (softStopBound a r s).link.station = s.link.station ∧ (softStopBound a r s).link.rate = s.link.rate
    ∧ (softStopBound a r s).link.pinAddress = s.link.pinAddress
    ∧ (softStopBound a r s).link.pinRate = s.link.pinRate ∧ (softStopBound a r s).link.reply = s.link.reply
    ∧ (softStopBound a r s).link.lastTaken = s.link.lastTaken
    ∧ (softStopBound a r s).link.acquirerUp = s.link.acquirerUp ∧ (softStopBound a r s).pending = s.pending := by
  and_intros <;> (simp only [softStopBound]; repeat' split) <;> simp

end Sys2Proof.Machine
end

