-- ==== Sys2Proof/Laws/Ops.lean ====
section
/-! SUPPORT. Laws/Ops.lean: for each shared operation, what it puts in place: at the point it acts on, at the other
points, in the slot, in the demand set and in the notice queue. -/

namespace Sys2Proof.Machine

open Sys2Proof

/-! ### Notices and alarms -/

/-- R190: the notice joins the tail while fewer than 64 are held; else it is discarded and the overflow flag set. -/
theorem pushNotice_link (b : NoticeBody) (s : State) :
    (s.link.notices.length < 64 ∧ (pushNotice b s).link.notices = s.link.notices ++ [⟨s.now, b⟩]
        ∧ (pushNotice b s).link.overflow = s.link.overflow)
      ∨ (64 ≤ s.link.notices.length ∧ (pushNotice b s).link.notices = s.link.notices
        ∧ (pushNotice b s).link.overflow = true) := by
  unfold pushNotice
  by_cases h : s.link.notices.length < 64
  · simp [Config.noticeQueueSize, h]
  · simp [Config.noticeQueueSize, h, Nat.not_lt.mp h]

theorem pushNotice_of_lt (b : NoticeBody) (s : State) (h : s.link.notices.length < 64) :
    pushNotice b s = { s with link := { s.link with notices := s.link.notices ++ [⟨s.now, b⟩] } } := by
  simp [pushNotice, Config.noticeQueueSize, h]

theorem pushNotice_length (b : NoticeBody) (s : State) :
    (pushNotice b s).link.notices.length ≤ max 64 s.link.notices.length := by
  rcases pushNotice_link b s with ⟨h, e, _⟩ | ⟨_, e, _⟩ <;> simp [e] <;> omega

/-- R171: the cell of an alarm presented on a qualifying edge is latched; on another edge nothing changes. -/
theorem presentPoint_cases (k : PointAlarm) (p : Point) (up : Bool) (s : State) :
    (edgeQualifies ((s.sup.pointAlarms[p.val]).get k).edge up = false ∧ presentPoint k p up s = s)
      ∨ (edgeQualifies ((s.sup.pointAlarms[p.val]).get k).edge up = true
        ∧ (presentPoint k p up s).sup =
          (modPointAlarms p (fun a => a.set k (latchCell ((s.sup.pointAlarms[p.val]).get k))) s).sup) := by
  simp only [presentPoint]
  split
  · next h => refine .inr ⟨h, ?_⟩; split <;> simp
  · next h => exact .inl ⟨by simpa using h, rfl⟩

theorem presentSite_cases (k : SiteAlarm) (up : Bool) (s : State) :
    (edgeQualifies (s.sup.siteAlarms.get k).edge up = false ∧ presentSite k up s = s)
      ∨ (edgeQualifies (s.sup.siteAlarms.get k).edge up = true
        ∧ (presentSite k up s).sup =
          (modSiteAlarms (fun a => a.set k (latchCell (s.sup.siteAlarms.get k))) s).sup) := by
  simp only [presentSite]
  split
  · next h => refine .inr ⟨h, ?_⟩; split <;> simp
  · next h => exact .inl ⟨by simpa using h, rfl⟩

@[simp] theorem point_pushNotice (b : NoticeBody) (s : State) (q : Point) : (pushNotice b s).point q = s.point q := by
  simp only [State.point, pushNotice_keeps]

@[simp] theorem slot_pushNotice (b : NoticeBody) (s : State) (k : Slot) : (pushNotice b s).slot k = s.slot k := by
  simp only [State.slot, pushNotice_keeps]

@[simp] theorem pump_pushNotice (b : NoticeBody) (s : State) (k : Pump) : (pushNotice b s).pump k = s.pump k := by
  simp only [State.pump, pushNotice_keeps]

@[simp] theorem point_presentPoint (k : PointAlarm) (p : Point) (up : Bool) (s : State) (q : Point) :
    (presentPoint k p up s).point q = s.point q := by
  simp only [State.point, presentPoint_keeps]

@[simp] theorem point_presentSite (k : SiteAlarm) (up : Bool) (s : State) (q : Point) :
    (presentSite k up s).point q = s.point q := by
  simp only [State.point, presentSite_keeps]

@[simp] theorem point_countFault (k : FaultCounter) (p : Point) (s : State) (q : Point) :
    (countFault k p s).point q = s.point q := by
  simp only [State.point, countFault_keeps]

/-! ### Demand (R112, R115) -/

@[simp] theorem point_demandLeave (p : Point) (s : State) (q : Point) : (demandLeave p s).point q = s.point q := by
  simp only [State.point, demandLeave_keeps]

@[simp] theorem slot_demandLeave (p : Point) (s : State) (k : Slot) : (demandLeave p s).slot k = s.slot k := by
  simp only [State.slot, demandLeave_keeps]

@[simp] theorem demand_enterRunOn (k j : Pump) (s : State) : ((enterRunOn k s).pump j).demand = (s.pump j).demand := by
  by_cases h : j = k
  · subst h; unfold enterRunOn; split <;> simp
  · unfold enterRunOn; split <;> simp [h]

/-- The point is in no demand set it left, and the sets keep their other points. -/
theorem demandLeave_demand (p : Point) (s : State) :
    ((demandLeave p s).pump (s.pumpOfPoint p)).demand = (s.pump (s.pumpOfPoint p)).demand.filter (· != p) := by
  simp only [demandLeave]
  split
  · split <;> simp
  · next h =>
    refine (List.filter_eq_self.mpr fun x hx => ?_).symm
    by_cases h' : x = p
    · exact absurd (List.contains_iff_mem.mpr (h' ▸ hx)) h
    · simpa using h'

/-! ### Points -/

@[simp] theorem point_closeValve (p : Point) (s : State) :
    (closeValve p s).point p = stageUnit .closed (s.point p) := by
  simp [closeValve]

@[simp] theorem point_closeValve_ne (p q : Point) (s : State) (h : q ≠ p) :
    (closeValve p s).point q = s.point q := by
  simp [closeValve, h]

@[simp] theorem slot_closeValve (p : Point) (s : State) (k : Slot) : (closeValve p s).slot k = s.slot k := by
  simp only [State.slot, closeValve_keeps]

/-- R97, R103: the point is FINISHED with its reason, its valve closed, its drain timer started. -/
@[simp] theorem point_enterFinished (p : Point) (r : EndReason) (s : State) :
    (enterFinished p r s).point p =
      stageUnit .closed { s.point p with ctl := finishRecord r s.site.drainTime (s.point p).ctl } := by
  simp [enterFinished]

@[simp] theorem point_enterFinished_ne (p q : Point) (r : EndReason) (s : State) (h : q ≠ p) :
    (enterFinished p r s).point q = s.point q := by
  simp [enterFinished, h]

/-- R97: the cause acts on a bound point that is not yet FINISHED, and on no other. -/
theorem closeFor_cases (p : Point) (r : EndReason) (s : State) :
    (s.isBound p = true ∧ (s.point p).ctl.state ≠ .finished ∧ closeFor p r s = enterFinished p r s)
      ∨ ((s.isBound p = false ∨ (s.point p).ctl.state = .finished) ∧ closeFor p r s = s) := by
  unfold closeFor
  split
  · next h => simp at h; exact .inl ⟨h.1, h.2, rfl⟩
  · next h =>
    refine .inr ⟨?_, rfl⟩
    by_cases hb : s.isBound p = true
    · exact .inr (by simpa [hb] using h)
    · exact .inl (by simpa using hb)

@[simp] theorem point_closeFor_ne (p q : Point) (r : EndReason) (s : State) (h : q ≠ p) :
    (closeFor p r s).point q = s.point q := by
  rcases closeFor_cases p r s with ⟨_, _, e⟩ | ⟨_, e⟩ <;> simp [e, h]

/-- R98: the point is SUSPENDED with the cause, a soft stop under way become the pending stop. -/
@[simp] theorem point_enterSuspended (p : Point) (cause : SuspendCause) (s : State) :
    (enterSuspended p cause s).point p =
      stageUnit .closed
        { s.point p with
          ctl :=
            { (s.point p).ctl with
              state := .suspended
              suspendCause := some cause
              stopPending := if (s.point p).ctl.state = .stopping then (s.point p).ctl.softReason else none
              softReason := none
              timer := some ⟨.suspension, secondTicks s.site.suspensionLimit⟩ } } := by
  simp [enterSuspended]

@[simp] theorem point_enterSuspended_ne (p q : Point) (cause : SuspendCause) (s : State) (h : q ≠ p) :
    (enterSuspended p cause s).point q = s.point q := by
  simp [enterSuspended, h]

/-- R95: the point is STOPPING on the slow stage, its stop reference loaded. -/
@[simp] theorem point_enterStopping (p : Point) (r : EndReason) (s : State) :
    (enterStopping p r s).point p =
      stageUnit .slow
        { s.point p with
          ctl :=
            { (s.point p).ctl with
              state := .stopping
              softReason := some r
              stopRef := s.deliveryVolume p
              timer := some ⟨.softStop, secondTicks s.site.softStopTime⟩ } } := by
  simp [enterStopping]

@[simp] theorem point_enterStopping_ne (p q : Point) (r : EndReason) (s : State) (h : q ≠ p) :
    (enterStopping p r s).point q = s.point q := by
  simp [enterStopping, h]

@[simp] theorem point_softStopPoint_ne (p q : Point) (r : EndReason) (s : State) (h : q ≠ p) :
    (softStopPoint p r s).point q = s.point q := by
  unfold softStopPoint; split <;> simp [h]

@[simp] theorem point_enterSlowDown (p : Point) (s : State) :
    (enterSlowDown p s).point p =
      stageUnit .slow { s.point p with ctl := { (s.point p).ctl with state := .slowDown } } := by
  simp [enterSlowDown]

@[simp] theorem point_enterSlowDown_ne (p q : Point) (s : State) (h : q ≠ p) :
    (enterSlowDown p s).point q = s.point q := by
  simp [enterSlowDown, h]

@[simp] theorem point_enterFast_ne (p q : Point) (s : State) (h : q ≠ p) : (enterFast p s).point q = s.point q := by
  simp [enterFast, resetSettle, h]

@[simp] theorem ctl_enterFast (p : Point) (s : State) :
    ((enterFast p s).point p).ctl = { (s.point p).ctl with state := .fast, stage := .fast } := by
  simp [enterFast, resetSettle]

@[simp] theorem point_setFaultLatch_ne (p q : Point) (s : State) (h : q ≠ p) :
    (setFaultLatch p s).point q = s.point q := by
  simp [setFaultLatch, h]

/-- R184: the run is in DRAIN, its valve closed, its end cause loaded once. -/
@[simp] theorem point_enterProvingDrain (p : Point) (cause : ProveEnd) (s : State) :
    (enterProvingDrain p cause s).point p =
      stageUnit .closed
        { s.point p with
          ctl :=
            { (s.point p).ctl with
              timer := some ⟨.drain, secondTicks s.site.drainTime⟩
              proving := (s.point p).ctl.proving.map fun r => { loadEnd (some cause) r with phase := .drain } } } := by
  simp [enterProvingDrain]

@[simp] theorem point_enterProvingDrain_ne (p q : Point) (cause : ProveEnd) (s : State) (h : q ≠ p) :
    (enterProvingDrain p cause s).point q = s.point q := by
  simp [enterProvingDrain, h]

@[simp] theorem point_enterProvingDone_ne (p q : Point) (cause : Option ProveEnd) (s : State) (h : q ≠ p) :
    (enterProvingDone p cause s).point q = s.point q := by
  simp [enterProvingDone, h]

@[simp] theorem point_enterProvingTail_ne (p q : Point) (cause : ProveEnd) (s : State) (h : q ≠ p) :
    (enterProvingTail p cause s).point q = s.point q := by
  simp [enterProvingTail, h]

@[simp] theorem point_closeRunFor_ne (p q : Point) (cause : ProveEnd) (s : State) (h : q ≠ p) :
    (closeRunFor p cause s).point q = s.point q := by
  unfold closeRunFor; split <;> simp [h]

@[simp] theorem point_openPoint_ne (p q : Point) (s : State) (h : q ≠ p) : (openPoint p s).point q = s.point q := by
  unfold openPoint; split <;> simp [h]

@[simp] theorem point_openProving_ne (p q : Point) (s : State) (h : q ≠ p) :
    (openProving p s).point q = s.point q := by
  simp [openProving, h]

@[simp] theorem point_tellRunning_ne (p q : Point) (s : State) (h : q ≠ p) :
    (tellRunning p s).point q = s.point q := by
  unfold tellRunning; (repeat' split) <;> simp [h]

@[simp] theorem point_demandJoin_ne (p q : Point) (s : State) (h : q ≠ p) :
    (demandJoin p s).point q = s.point q := by
  simp only [demandJoin]; split <;> first | rfl | simp [h]

@[simp] theorem point_enterWaitPump_ne (p q : Point) (s : State) (h : q ≠ p) :
    (enterWaitPump p s).point q = s.point q := by
  unfold enterWaitPump; split <;> simp [h]

@[simp] theorem point_enterPumpWait_ne (p q : Point) (s : State) (h : q ≠ p) :
    (enterPumpWait p s).point q = s.point q := by
  unfold enterPumpWait; split <;> simp [h]

/-! ### Records -/

/-- R45: the slot is FREE, and an AUTH_RESULT is presented for the record it held. -/
@[simp] theorem slot_freeWith (k : Slot) (o : AuthOutcome) (s : State) : (freeWith k o s).slot k = none := by
  unfold freeWith; split
  · next h => exact h
  · simp

@[simp] theorem slot_freeWith_ne (k j : Slot) (o : AuthOutcome) (s : State) (h : j ≠ k) :
    (freeWith k o s).slot j = s.slot j := by
  unfold freeWith; split <;> simp [h]

/-- R158: the record of the slot is SETTLED with an end reason and the site time. -/
@[simp] theorem slot_settleSilently (k : Slot) (r : RecordEnd) (s : State) :
    (settleSilently k r s).slot k = (s.slot k).map (AuthRecord.settle r s.now) := by
  unfold settleSilently; split
  · next h => rw [h]; rfl
  · simp

@[simp] theorem slot_settleSilently_ne (k j : Slot) (r : RecordEnd) (s : State) (h : j ≠ k) :
    (settleSilently k r s).slot j = s.slot j := by
  unfold settleSilently; split <;> first | rfl | simp [h]

@[simp] theorem slot_settle_ne (k j : Slot) (r : RecordEnd) (s : State) (h : j ≠ k) :
    (settle k r s).slot j = s.slot j := by
  unfold settle; split <;> simp [announceSale, h]

/-! ### Outputs, caps and the no-flow limit -/

/-- R112: the RUN output is on in STARTING, RUNNING and RUN_ON alone. -/
theorem runOutput_iff (s : State) (k : Pump) :
    s.runOutput k = true
      ↔ (s.pump k).state = .starting ∨ (s.pump k).state = .running ∨ (s.pump k).state = .runOn := by
  unfold State.runOutput PumpState.runs; cases (s.pump k).state <;> simp

/-- R87, R88: a closed stage energises neither valve output. -/
theorem outputs_closed {s : State} {p : Point} (h : (s.point p).ctl.stage = .closed) :
    s.slowOutput p = false ∧ s.fastOutput p = false := by
  simp [State.slowOutput, State.fastOutput, h]

/-- R187: the line driver is enabled in REPLY only. -/
theorem lineDriver_reply {s : State} (h : s.lineDriver = true) : s.link.receiver = .reply := by
  simp [State.lineDriver] at h; exact h.1

/-- R187: from the action that answers a frame the line driver is enabled; after a broadcast it is not. -/
theorem lineDriver_answered (kind : Byte) (st : Status) (d : ReplyData) (s : State) :
    (reply kind st d s).lineDriver = true ∧ (endBroadcast s).lineDriver = false := by
  simp [State.lineDriver, reply, endBroadcast]

/-- R152: T stands at the no-flow limit of an active monitor that is not frozen. -/
theorem limitReached_iff (m : Monitor) :
    m.limitReached = true ↔ m.active = true ∧ m.frozen = false ∧ m.noFlowLimit ≤ m.ticks := by
  simp [Monitor.limitReached, and_assoc]

/-- R2: the total charge is reported within 9,999,999. -/
theorem totalCharge_le (a : AuthRecord) : a.totalCharge ≤ 9999999 := Nat.min_le_right _ _

/-! ### Order of card numbers (R16) -/

theorem before_irrefl (c : CardNumber) : c.before c = false := by
  simp [CardNumber.before]

theorem before_trans {c d e : CardNumber} (h : c.before d = true) (h' : d.before e = true) : c.before e = true := by
  simp [CardNumber.before] at *; omega

theorem before_total {c d : CardNumber} (h : c ≠ d) (h' : c.before d = false) : d.before c = true := by
  simp [CardNumber.before] at *
  rcases c with ⟨a, b⟩; rcases d with ⟨x, y⟩
  simp at *
  omega

end Sys2Proof.Machine
end

