-- ==== Sys2Proof/Laws/Lines.lean ====
section
/-! SUPPORT. Laws/Lines.lean: what the closing of a bound point and the limit evaluation of a line do, in the words of
Safety.lean. -/

namespace Sys2Proof.Machine

open Sys2Proof Sys2Proof.Safety

/-! ### Closing a point (R97, R103, R112, R115) -/

theorem demandLeave_leavesDemand (p : Point) (s : State) : leavesDemand p s (demandLeave p s) := by
  refine ⟨fun j hj => ?_, demandLeave_demand p s, ?_⟩
  · simp only [demandLeave]
    split
    · split
      · unfold enterRunOn; split <;> simp [hj]
      · simp [hj]
    · rfl
  · by_cases hm : p ∈ (s.pump (s.pumpOfPoint p)).demand
    · by_cases hr : (s.pump (s.pumpOfPoint p)).state = .running
        ∧ (s.pump (s.pumpOfPoint p)).demand.filter (· != p) = []
      · by_cases hz : (s.pumpSettings (s.pumpOfPoint p)).runOn = 0 <;>
          simp [demandLeave, hm, hr, enterRunOn, hz, secondTicks, Config.ticksPerSecond]
      · have e : demandLeave p s =
            modPump (s.pumpOfPoint p) (fun r => { r with demand := r.demand.filter (· != p) }) s := by
          simp only [demandLeave]
          rw [if_pos (List.contains_iff_mem.mpr hm), if_neg]
          simpa using hr
        rw [if_neg fun h => hr ⟨h.1, h.2.2⟩, e]
        simp
    · have e : demandLeave p s = s := by simp [demandLeave, hm]
      rw [e]
      simp [hm]

theorem enterFinished_finishes (p : Point) (r : EndReason) (s : State) : finishes p r s (enterFinished p r s) := by
  have hp := point_enterFinished p r s
  have hk := enterFinished_keeps p r s
  refine ⟨⟨?_, ?_⟩, fun q h => point_enterFinished_ne p q r s h, ?_,
    demandLeave_leavesDemand p (setStage p .closed (modCtl p (finishRecord r s.site.drainTime) s)), ?_, ?_⟩
  · generalize enterFinished p r s = t at hk
    cases t
    simp at hk ⊢
    simp [hk]
  · unfold linkKept
    generalize enterFinished p r s = t at hk
    cases ht : t.link
    simp [ht] at hk ⊢
    simp [hk]
  · rw [hp]; simp [unitKept, stageUnit]
  · rw [hp]; simp [closedMonitor, stageUnit, finishRecord, stopMonitor]
  · rw [hp]; simp [stageUnit, finishRecord, secondTicks, Config.ticksPerSecond]

/-! ### Limit evaluation (R79, R80) -/

theorem enterSlowDown_eq (p : Point) (s : State) :
    enterSlowDown p s = { s with points := s.points.set p.val (slowedUnit (s.point p)) } := by
  simp only [enterSlowDown, modCtl, setStage, modPoint, State.point, Vector.set_set, Vector.getElem_set_self]
  rfl

/-- A point is bound under a serial. -/
theorem boundUnder_iff (serial : Nat) (o : Option Binding) :
    (o.any fun b => b.serial == serial) = true ↔ o.map Binding.serial = some serial := by cases o <;> simp

theorem closeAheadPoint_evaluatesAt (serial : Nat) (rem : Int) (e : ProductEntry) (q : Point) (s : State)
    (h : rem ≤ e.closeAhead) : evaluatesAt serial rem e q s (closeAheadPoint serial q s) := by
  simp only [evaluatesAt, closeAheadPoint, boundUnder_iff]
  by_cases hb : (s.point q).ctl.binding.map Binding.serial = some serial
  · rw [if_pos hb]
    have hq : s.isBound q = true := by
      unfold State.isBound
      cases hc : (s.point q).ctl.binding <;> simp [hc] at hb ⊢
    rcases closeFor_cases q .limit s with ⟨_, hs, he⟩ | ⟨hs, he⟩
    · rw [if_pos ⟨hb, h, hs⟩, he]
      exact enterFinished_finishes q .limit s
    · have hs := hs.resolve_left (by simp [hq])
      simp [he, hs]
  · simp [hb]

theorem slowDownPoint_evaluatesAt (serial : Nat) (rem : Int) (e : ProductEntry) (q : Point) (s : State)
    (h : e.closeAhead < rem) (h' : rem ≤ e.slowDown) : evaluatesAt serial rem e q s (slowDownPoint serial q s) := by
  simp only [evaluatesAt, slowDownPoint, boundUnder_iff, h, h', Int.not_le.mpr h]
  by_cases hb : (s.point q).ctl.binding.map Binding.serial = some serial
  · rw [if_pos hb]
    cases hs : (s.point q).ctl.state
    case fast => rw [if_neg (by simp), if_pos (by simp [hb])]; exact enterSlowDown_eq q s
    case softStart => rw [if_neg (by simp), if_pos (by simp [hb])]; exact enterSlowDown_eq q s
    all_goals simp
  · simp [hb]

theorem foldl_takesEach (act : Point → State → State → Prop) (f : Point → State → State)
    (h : ∀ q s, act q s (f q s)) (qs : List Point) (s : State) :
    takesEach act qs s (qs.foldl (fun t q => f q t) s) := by
  induction qs generalizing s with
  | nil => rfl
  | cons q qs ih => exact ⟨_, h q s, ih _⟩

theorem takesEach_self (act : Point → State → State → Prop) (s : State) (h : ∀ q, act q s s) (qs : List Point) :
    takesEach act qs s s := by
  induction qs with
  | nil => rfl
  | cons q qs ih => exact ⟨s, h q, ih⟩

/-- R79, R80: what a limit evaluation of an OPEN line does. -/
theorem evaluateLine_evaluates {k : Slot} {r : Product} {s : State} {a : AuthRecord} (h : s.slot k = some a)
    (ho : (a.lines.get r).state = .opened) :
    evaluates (a.lines.get r) a.serial (s.product r) s (evaluateLine k r s) := by
  simp only [evaluateLine, h, ho, if_true, evaluates]
  split
  · next hc => exact foldl_takesEach _ _ (fun q t => closeAheadPoint_evaluatesAt _ _ _ q t hc) _ _
  · next hc =>
    split
    · next hd => exact foldl_takesEach _ _ (fun q t => slowDownPoint_evaluatesAt _ _ _ q t (Int.not_le.mp hc) hd) _ _
    · next hd => exact takesEach_self _ _ (fun q => by simp [evaluatesAt, hc, hd]) _

/-- R79: a line that is not OPEN is not evaluated. -/
theorem evaluateLine_of_not_opened {k : Slot} {r : Product} {s : State}
    (h : ∀ a, s.slot k = some a → (a.lines.get r).state ≠ .opened) : evaluateLine k r s = s := by
  unfold evaluateLine
  split
  · rfl
  · next a ha => simp [h a ha]

end Sys2Proof.Machine
end

