-- ==== Sys2Proof/Laws/PerInstr.lean ====
section
/-! SUPPORT. Laws/PerInstr.lean: the family EncodedKind: the frame body of a request begins with the kind code of its
request (12 §12.5). -/

namespace Sys2Proof.Laws

open Sys2Proof Sys2Proof.Safety

/-- The body a command is encoded as begins with its kind code. -/
def EncodedKind.Statement (i : Instr) : Prop :=
  ∀ bs, encodeBody i = some bs → ∃ rest, bs = kindOf i :: rest

theorem EncodedKind.frameByteReceived (byte : Byte) (stopBit : Bool) :
    EncodedKind.Statement (.frameByteReceived byte stopBit) := by
  intro _ h; cases h

theorem EncodedKind.frameGapTimeout :
    EncodedKind.Statement (.frameGapTimeout) := by
  intro _ h; cases h

theorem EncodedKind.replySent :
    EncodedKind.Statement (.replySent) := by
  intro _ h; cases h

theorem EncodedKind.unknownRequest (dest : Dest) (kind : Byte) :
    EncodedKind.Statement (.unknownRequest dest kind) := by
  intro _ h; cases h

theorem EncodedKind.status (dest : Dest) (body : Body Unit) :
    EncodedKind.Statement (.status dest body) := by
  intro _ h; cases body
  · cases h
  · exact ⟨_, (Option.some.inj h).symm⟩

theorem EncodedKind.nextNotice (dest : Dest) (body : Body Byte) :
    EncodedKind.Statement (.nextNotice dest body) := by
  intro _ h; cases body
  · cases h
  · exact ⟨_, (Option.some.inj h).symm⟩

theorem EncodedKind.cardPresented (dest : Dest) (body : Body CardPresentedF) :
    EncodedKind.Statement (.cardPresented dest body) := by
  intro _ h; cases body
  · cases h
  · exact ⟨_, (Option.some.inj h).symm⟩

theorem EncodedKind.onlineResult (dest : Dest) (body : Body OnlineResultF) :
    EncodedKind.Statement (.onlineResult dest body) := by
  intro _ h; cases body
  · cases h
  · exact ⟨_, (Option.some.inj h).symm⟩

theorem EncodedKind.acquirerState (dest : Dest) (body : Body Byte) :
    EncodedKind.Statement (.acquirerState dest body) := by
  intro _ h; cases body
  · cases h
  · exact ⟨_, (Option.some.inj h).symm⟩

theorem EncodedKind.cancelAuth (dest : Dest) (body : Body W16) :
    EncodedKind.Statement (.cancelAuth dest body) := by
  intro _ h; cases body
  · cases h
  · exact ⟨_, (Option.some.inj h).symm⟩

theorem EncodedKind.authRead (dest : Dest) (body : Body AuthReadF) :
    EncodedKind.Statement (.authRead dest body) := by
  intro _ h; cases body
  · cases h
  · exact ⟨_, (Option.some.inj h).symm⟩

theorem EncodedKind.pointRead (dest : Dest) (body : Body Byte) :
    EncodedKind.Statement (.pointRead dest body) := by
  intro _ h; cases body
  · cases h
  · exact ⟨_, (Option.some.inj h).symm⟩

theorem EncodedKind.pointStats (dest : Dest) (body : Body PointOptionF) :
    EncodedKind.Statement (.pointStats dest body) := by
  intro _ h; cases body
  · cases h
  · exact ⟨_, (Option.some.inj h).symm⟩

theorem EncodedKind.stopPoint (dest : Dest) (body : Body StopPointF) :
    EncodedKind.Statement (.stopPoint dest body) := by
  intro _ h; cases body
  · cases h
  · exact ⟨_, (Option.some.inj h).symm⟩

theorem EncodedKind.suspendPoint (dest : Dest) (body : Body Byte) :
    EncodedKind.Statement (.suspendPoint dest body) := by
  intro _ h; cases body
  · cases h
  · exact ⟨_, (Option.some.inj h).symm⟩

theorem EncodedKind.resumePoint (dest : Dest) (body : Body Byte) :
    EncodedKind.Statement (.resumePoint dest body) := by
  intro _ h; cases body
  · cases h
  · exact ⟨_, (Option.some.inj h).symm⟩

theorem EncodedKind.faultClear (dest : Dest) (body : Body Byte) :
    EncodedKind.Statement (.faultClear dest body) := by
  intro _ h; cases body
  · cases h
  · exact ⟨_, (Option.some.inj h).symm⟩

theorem EncodedKind.saleFetch (dest : Dest) (body : Body SaleFetchF) :
    EncodedKind.Statement (.saleFetch dest body) := by
  intro _ h; cases body
  · cases h
  · exact ⟨_, (Option.some.inj h).symm⟩

theorem EncodedKind.saleClear (dest : Dest) (body : Body W16) :
    EncodedKind.Statement (.saleClear dest body) := by
  intro _ h; cases body
  · cases h
  · exact ⟨_, (Option.some.inj h).symm⟩

theorem EncodedKind.profileWrite (dest : Dest) (body : Body ProfileWriteF) :
    EncodedKind.Statement (.profileWrite dest body) := by
  intro _ h; cases body
  · cases h
  · exact ⟨_, (Option.some.inj h).symm⟩

theorem EncodedKind.profileRead (dest : Dest) (body : Body Byte) :
    EncodedKind.Statement (.profileRead dest body) := by
  intro _ h; cases body
  · cases h
  · exact ⟨_, (Option.some.inj h).symm⟩

theorem EncodedKind.profileCount (dest : Dest) (body : Body Byte) :
    EncodedKind.Statement (.profileCount dest body) := by
  intro _ h; cases body
  · cases h
  · exact ⟨_, (Option.some.inj h).symm⟩

theorem EncodedKind.hotlistAdd (dest : Dest) (body : Body CardWire) :
    EncodedKind.Statement (.hotlistAdd dest body) := by
  intro _ h; cases body
  · cases h
  · exact ⟨_, (Option.some.inj h).symm⟩

theorem EncodedKind.hotlistRemove (dest : Dest) (body : Body CardWire) :
    EncodedKind.Statement (.hotlistRemove dest body) := by
  intro _ h; cases body
  · cases h
  · exact ⟨_, (Option.some.inj h).symm⟩

theorem EncodedKind.hotlistClear (dest : Dest) (body : Body Unit) :
    EncodedKind.Statement (.hotlistClear dest body) := by
  intro _ h; cases body
  · cases h
  · exact ⟨_, (Option.some.inj h).symm⟩

theorem EncodedKind.hotlistQuery (dest : Dest) (body : Body CardWire) :
    EncodedKind.Statement (.hotlistQuery dest body) := by
  intro _ h; cases body
  · cases h
  · exact ⟨_, (Option.some.inj h).symm⟩

theorem EncodedKind.historyRead (dest : Dest) (body : Body CardWire) :
    EncodedKind.Statement (.historyRead dest body) := by
  intro _ h; cases body
  · cases h
  · exact ⟨_, (Option.some.inj h).symm⟩

theorem EncodedKind.dayClose (dest : Dest) (body : Body DateF) :
    EncodedKind.Statement (.dayClose dest body) := by
  intro _ h; cases body
  · cases h
  · exact ⟨_, (Option.some.inj h).symm⟩

theorem EncodedKind.clockSet (dest : Dest) (body : Body TimeF) :
    EncodedKind.Statement (.clockSet dest body) := by
  intro _ h; cases body
  · cases h
  · exact ⟨_, (Option.some.inj h).symm⟩

theorem EncodedKind.laneConfig (dest : Dest) (body : Body LaneConfigF) :
    EncodedKind.Statement (.laneConfig dest body) := by
  intro _ h; cases body
  · cases h
  · exact ⟨_, (Option.some.inj h).symm⟩

theorem EncodedKind.pointConfig (dest : Dest) (body : Body PointConfigF) :
    EncodedKind.Statement (.pointConfig dest body) := by
  intro _ h; cases body
  · cases h
  · exact ⟨_, (Option.some.inj h).symm⟩

theorem EncodedKind.productConfig (dest : Dest) (body : Body ProductConfigF) :
    EncodedKind.Statement (.productConfig dest body) := by
  intro _ h; cases body
  · cases h
  · exact ⟨_, (Option.some.inj h).symm⟩

theorem EncodedKind.siteConfig (dest : Dest) (body : Body SiteConfigF) :
    EncodedKind.Statement (.siteConfig dest body) := by
  intro _ h; cases body
  · cases h
  · exact ⟨_, (Option.some.inj h).symm⟩

theorem EncodedKind.pumpReset (dest : Dest) (body : Body Byte) :
    EncodedKind.Statement (.pumpReset dest body) := by
  intro _ h; cases body
  · cases h
  · exact ⟨_, (Option.some.inj h).symm⟩

theorem EncodedKind.siteResume (dest : Dest) (body : Body Unit) :
    EncodedKind.Statement (.siteResume dest body) := by
  intro _ h; cases body
  · cases h
  · exact ⟨_, (Option.some.inj h).symm⟩

theorem EncodedKind.alarmMask (dest : Dest) (body : Body AlarmMaskF) :
    EncodedKind.Statement (.alarmMask dest body) := by
  intro _ h; cases body
  · cases h
  · exact ⟨_, (Option.some.inj h).symm⟩

theorem EncodedKind.alarmClear (dest : Dest) (body : Body AlarmClearF) :
    EncodedKind.Statement (.alarmClear dest body) := by
  intro _ h; cases body
  · cases h
  · exact ⟨_, (Option.some.inj h).symm⟩

theorem EncodedKind.countersRead (dest : Dest) (body : Body PointOptionF) :
    EncodedKind.Statement (.countersRead dest body) := by
  intro _ h; cases body
  · cases h
  · exact ⟨_, (Option.some.inj h).symm⟩

theorem EncodedKind.proveStart (dest : Dest) (body : Body Byte) :
    EncodedKind.Statement (.proveStart dest body) := by
  intro _ h; cases body
  · cases h
  · exact ⟨_, (Option.some.inj h).symm⟩

theorem EncodedKind.proveStop (dest : Dest) (body : Body Byte) :
    EncodedKind.Statement (.proveStop dest body) := by
  intro _ h; cases body
  · cases h
  · exact ⟨_, (Option.some.inj h).symm⟩

theorem EncodedKind.proveResult (dest : Dest) (body : Body ProveResultF) :
    EncodedKind.Statement (.proveResult dest body) := by
  intro _ h; cases body
  · cases h
  · exact ⟨_, (Option.some.inj h).symm⟩

theorem EncodedKind.calLogRead (dest : Dest) (body : Body Byte) :
    EncodedKind.Statement (.calLogRead dest body) := by
  intro _ h; cases body
  · cases h
  · exact ⟨_, (Option.some.inj h).symm⟩

theorem EncodedKind.totalsRead (dest : Dest) (body : Body Byte) :
    EncodedKind.Statement (.totalsRead dest body) := by
  intro _ h; cases body
  · cases h
  · exact ⟨_, (Option.some.inj h).symm⟩

theorem EncodedKind.reset (dest : Dest) (body : Body Unit) :
    EncodedKind.Statement (.reset dest body) := by
  intro _ h; cases body
  · cases h
  · exact ⟨_, (Option.some.inj h).symm⟩

theorem EncodedKind.coldStart (elapsed : Nat) (inputs : Inputs) :
    EncodedKind.Statement (.coldStart elapsed inputs) := by
  intro _ h; cases h

theorem EncodedKind.warmRestart (cause : WarmCause) (inputs : Inputs) :
    EncodedKind.Statement (.warmRestart cause inputs) := by
  intro _ h; cases h

theorem EncodedKind.nozzleLift (point : Point) :
    EncodedKind.Statement (.nozzleLift point) := by
  intro _ h; cases h

theorem EncodedKind.hangUp (point : Point) :
    EncodedKind.Statement (.hangUp point) := by
  intro _ h; cases h

theorem EncodedKind.meterTransition (point : Point) (pair : Pair) (order : CountOrder) :
    EncodedKind.Statement (.meterTransition point pair order) := by
  intro _ h; cases h

theorem EncodedKind.noFlowLimit (point : Point) :
    EncodedKind.Statement (.noFlowLimit point) := by
  intro _ h; cases h

theorem EncodedKind.estopAssertion :
    EncodedKind.Statement (.estopAssertion) := by
  intro _ h; cases h

theorem EncodedKind.estopDeassertion :
    EncodedKind.Statement (.estopDeassertion) := by
  intro _ h; cases h

theorem EncodedKind.calEnAssertion :
    EncodedKind.Statement (.calEnAssertion) := by
  intro _ h; cases h

theorem EncodedKind.calEnDeassertion :
    EncodedKind.Statement (.calEnDeassertion) := by
  intro _ h; cases h

theorem EncodedKind.readyAssertion (pump : Pump) :
    EncodedKind.Statement (.readyAssertion pump) := by
  intro _ h; cases h

theorem EncodedKind.readyDeassertion (pump : Pump) :
    EncodedKind.Statement (.readyDeassertion pump) := by
  intro _ h; cases h

theorem EncodedKind.onlineTimerExpiry (slot : Slot) :
    EncodedKind.Statement (.onlineTimerExpiry slot) := by
  intro _ h; cases h

theorem EncodedKind.armingTimerExpiry (slot : Slot) :
    EncodedKind.Statement (.armingTimerExpiry slot) := by
  intro _ h; cases h

theorem EncodedKind.idleCloseExpiry (slot : Slot) :
    EncodedKind.Statement (.idleCloseExpiry slot) := by
  intro _ h; cases h

theorem EncodedKind.softStopTimerExpiry (point : Point) :
    EncodedKind.Statement (.softStopTimerExpiry point) := by
  intro _ h; cases h

theorem EncodedKind.suspensionTimerExpiry (point : Point) :
    EncodedKind.Statement (.suspensionTimerExpiry point) := by
  intro _ h; cases h

theorem EncodedKind.drainTimerExpiry (point : Point) :
    EncodedKind.Statement (.drainTimerExpiry point) := by
  intro _ h; cases h

theorem EncodedKind.spinUpExpiry (pump : Pump) :
    EncodedKind.Statement (.spinUpExpiry pump) := by
  intro _ h; cases h

theorem EncodedKind.readyWaitExpiry (pump : Pump) :
    EncodedKind.Statement (.readyWaitExpiry pump) := by
  intro _ h; cases h

theorem EncodedKind.runOnExpiry (pump : Pump) :
    EncodedKind.Statement (.runOnExpiry pump) := by
  intro _ h; cases h

theorem EncodedKind.reportIntervalExpiry :
    EncodedKind.Statement (.reportIntervalExpiry) := by
  intro _ h; cases h

theorem EncodedKind.provingTailTimerExpiry (point : Point) :
    EncodedKind.Statement (.provingTailTimerExpiry point) := by
  intro _ h; cases h

theorem EncodedKind.provingDrainExpiry (point : Point) :
    EncodedKind.Statement (.provingDrainExpiry point) := by
  intro _ h; cases h

end Sys2Proof.Laws
end

