-- ==== Sys2Proof/Tests/Slice0.lean ====
section
/-! SUPPORT. Tests/Slice0.lean: checks of the model against figures the manual works out and frames written out from its
layouts, and for each statement with hypotheses a state and operands that meet them (`test_hyp_`). -/

namespace Sys2Proof.Tests

set_option Elab.async false

open Sys2Proof Sys2Proof.Machine Sys2Proof.Safety

/-! ### Small states -/

/-- The reset state with point 1 changed. -/
def at1 (f : PointUnit → PointUnit) : State := modPoint 0 f State.reset

/-- A point's controller in a state, with its nozzle lifted and the stage that state gives. -/
def inState (st : PointState) (u : PointUnit) : PointUnit :=
  let c : PointRecord := { u.ctl with state := st, nozzle := .lifted }
  { u with ctl := { c with stage := stateStage c } }

/-- A primary line opened with 5,000 cents at 10,000 per 100 L, its member M of lane 1. -/
def openLine : Line :=
  { blankLine with state := .opened, price := some 10000, allowance := 5000, limit := 5000, members := [⟨0, 0⟩] }

def blankLines : Lines := ⟨blankLine, blankLine, blankLine⟩

/-- A record of lane 1 with serial 1. -/
def record (st : RecordState) : AuthRecord where
  serial := 1
  state := st
  lane := 0
  card := ⟨16, 7000000001000004⟩
  expiry := ⟨26, 12⟩
  profile := 0
  snapshot :=
    { cls := .fleet, allowed := ⟨true, true, true⟩, onlineMode := .alwaysOnline, onlineTimeout := 25, floorLimit := 0
      defCap := 0, rfrCap := 0, capRemaining := none }
  requested := 5000
  hold := some 5000
  flags := ⟨false, false, false, false, false, false, false⟩
  reference := none
  prompts := []
  onlineLimit := none
  timer := none
  lines := blankLines
  bound := []
  delivered := []
  deliveries := []
  created := ⟨deliveredDate, 0⟩
  firstFlow := none
  settledAt := none
  endReason := none

/-- The reset state with a record in slot 0. -/
def holding (a : AuthRecord) (s : State) : State := setSlot 0 (some a) s

/-- The delivery record of a point bound to `record`. -/
def sampleDelivery : Delivery where
  serial := 1
  line := .dsl
  net := 100
  peak := 120
  volume := 1000
  degraded := false
  sat := false
  start := ⟨deliveredDate, 0⟩
  endReason := none
  backLink := none
  final := false

/-- Point 1 bound to a DELIVERING record, in a state. -/
def bound (st : PointState) (f : PointUnit → PointUnit) : State :=
  holding { record .delivering with bound := [0], lines := { blankLines with dsl := openLine } }
    (at1 fun u =>
      f (inState st { u with ctl := { u.ctl with binding := some ⟨1, .dsl⟩, delivery := some sampleDelivery } }))

/-- Point 1 in a proving run, in a phase, with a point timer. -/
def proving (phase : ProvePhase) (timer : Option PointTimer) : State :=
  at1 fun u =>
    inState .proving
      { u with
        ctl :=
          { u.ctl with
            timer := timer
            proving := some
              { phase := phase, net := 1000, peak := 1000, startRef := 0, stopRef := 0, endCause := none
                measured := some 1000, totalised := true } } }

def withTimer (k : PointTimerKind) (u : PointUnit) : PointUnit := { u with ctl := { u.ctl with timer := some ⟨k, 1⟩ } }

/-- A state with the ESTOP input and latch as given. -/
def stopped (input latch : Bool) (s : State) : State :=
  { s with sup := { s.sup with estopInput := input, estopLatch := latch } }

/-- Pump A in a state, on a state. -/
def pumping (r : PumpRecord) (s : State) : State := modPump .a (fun _ => r) s

theorem slot_holding (a : AuthRecord) (s : State) (h : ∀ k, s.slot k = none) (k : Slot) (b : AuthRecord)
    (hb : (holding a s).slot k = some b) : k = 0 ∧ b = a := by
  by_cases hk : k = 0
  · subst hk
    simp only [holding, slot_setSlot] at hb
    exact ⟨rfl, (Option.some.inj hb).symm⟩
  · rw [holding, slot_setSlot_ne _ _ _ _ hk, h k] at hb
    cases hb

theorem reset_slot (k : Slot) : State.reset.slot k = none := by revert k; decide

/-! ### Well-formedness: the check each ill-formed term fails -/

/-- A CARD PRESENTED with 37 prompts is longer than a frame (R187). -/
theorem test_wellFormed_prompts :
    promptsFit ⟨1, ⟨0, 0⟩, 0, 0, 0, 0, List.replicate 37 ⟨1, 0, 0⟩⟩ = false
      ∧ (Instr.cardPresented .station (.fields ⟨1, ⟨0, 0⟩, 0, 0, 0, 0, List.replicate 37 ⟨1, 0, 0⟩⟩)).wellFormed = false
      ∧ promptsFit ⟨1, ⟨0, 0⟩, 0, 0, 0, 0, List.replicate 36 ⟨1, 0, 0⟩⟩ = true := by decide +kernel

/-- An ONLINE RESULT with a reference of 225 bytes is longer than a frame (R187). -/
theorem test_wellFormed_reference :
    referenceFits ⟨1, 1, 0, List.replicate 225 0x41, 0, 0, 0, 0⟩ = false
      ∧ (Instr.onlineResult .station (.fields ⟨1, 1, 0, List.replicate 225 0x41, 0, 0, 0, 0⟩)).wellFormed = false := by
  decide +kernel

/-- STATUS is a request, so UNKNOWN_REQUEST cannot carry its kind (R188). -/
theorem test_wellFormed_unknown :
    isUnknownKind 0x01 = false ∧ (Instr.unknownRequest .station 0x01).wellFormed = false
      ∧ isUnknownKind 0x7E = true := by decide +kernel

/-! ### Frames written out from R194's layouts -/

/-- The CRC of R187 over the ASCII digits 1 to 9 is 0x29B1. -/
theorem test_crc : crc16 [0x31, 0x32, 0x33, 0x34, 0x35, 0x36, 0x37, 0x38, 0x39] = 0x29B1 := by decide +kernel

theorem test_layout_stop : decodeBody .station [0x22, 7, 1] = .stopPoint .station (.fields ⟨7, 1⟩) := by decide +kernel

theorem test_layout_status :
    decodeBody .station [0x01] = .status .station (.fields ()) ∧ decodeBody .station [0x01, 0] = .status .station .wrongLength := by
  decide +kernel

theorem test_layout_card :
    decodeBody .station
        [0x10, 3, 16, 0x70, 0x00, 0x00, 0x00, 0x01, 0x00, 0x00, 0x04, 0xFF, 0xFF, 0x26, 0x12, 0, 1, 0, 0, 0x13, 0x88, 1, 1, 0,
          0, 1, 0xE2, 0x40] =
      .cardPresented .station
        (.fields ⟨3, ⟨16, 0x7000000001000004FFFF⟩, 0x2612, 0, 1, 5000, [⟨1, 0, 123456⟩]⟩) := by decide +kernel

theorem test_layout_online :
    decodeBody .station [0x11, 0, 9, 1, 0, 0, 0x13, 0x88, 2, 0x41, 0x42, 1, 0, 0, 0x27, 0x10, 0, 0] =
      .onlineResult .station (.fields ⟨9, 1, 5000, [0x41, 0x42], 1, 10000, 0, 0⟩) := by decide +kernel

theorem test_layout_day : decodeBody .broadcast [0x38, 0x07, 0xE8, 2, 29] = .dayClose .broadcast (.fields ⟨2024, 2, 29⟩) := by
  decide +kernel

theorem test_layout_point_config :
    decodeBody .station [0x41, 4, 1, 20, 1, 30, 3, 1, 0, 100, 0xFF, 0xFF, 0xFF, 0xFE] =
      .pointConfig .station (.fields ⟨4, 1, 20, 1, 30, 3, 1, 100, 0xFFFFFFFE⟩) := by decide +kernel

theorem test_layout_unknown : decodeBody .station [0x7E, 1, 2] = .unknownRequest .station 0x7E := by decide +kernel

/-- R192, R194: 29 February 2024, second 86,399, replaced by 1 January 2000, second 258. -/
theorem test_layout_clock_reply :
    (ReplyData.clock ⟨⟨2024, 2, 29⟩, 86399⟩ ⟨⟨2000, 1, 1⟩, 258⟩).bytes =
      some [0x07, 0xE8, 2, 29, 0, 1, 0x51, 0x7F, 0x07, 0xD0, 1, 1, 0, 0, 1, 2] := by decide +kernel

/-- R8: the reply to a PROFILE COUNT of 3 carries 3 and the replaced count 5. -/
theorem test_layout_count_reply : (ReplyData.profileCount 3 5).bytes = some [3, 5] := by decide +kernel

/-- R194: the fields of the request above, as stored. -/
theorem test_layout_point_config_reply :
    (ReplyData.pointConfig 3 ⟨.strict, 20, 1, 30, 3, true⟩ ⟨100, -2⟩).bytes =
      some [4, 1, 20, 1, 30, 3, 1, 0, 100, 0xFF, 0xFF, 0xFF, 0xFE] := by decide +kernel

/-- R194: the settings of a new machine are sent in the layouts of the requests that store them. -/
theorem test_layout_settings_as_stored :
    (∃ f, decodeBody .station (0x43 :: siteBytes State.reset.site) = .siteConfig .station (.fields f)
      ∧ readSite f = some State.reset.site)
    ∧ (∃ f, decodeBody .station (0x30 :: profileBytes 5 blankProfile) = .profileWrite .station (.fields f)
      ∧ readProfile f = some blankProfile ∧ f.index = 5)
    ∧ (∃ f, decodeBody .station (0x42 :: productBytes .rfr State.reset.products.rfr) = .productConfig .station (.fields f)
      ∧ carriedEntry f = State.reset.products.rfr ∧ f.product = 2) := by
  refine ⟨⟨_, rfl, ?_⟩, ⟨_, rfl, ?_⟩, ⟨_, rfl, ?_⟩⟩ <;> decide +kernel

/-! ### Figures the manual works out -/

/-- R70: 100,004 mL at 1,250 costs 12,501 cents, 100,003 mL costs 12,500. -/
theorem test_amounts : amountOf 100004 1250 = 12501 ∧ amountOf 100003 1250 = 12500 := by decide +kernel

/-- R16: 0000000000017 stands after 999999999999. -/
theorem test_card_order : (⟨12, 999999999999⟩ : CardNumber).before ⟨13, 17⟩ = true := by decide +kernel

/-- R123: rows of the transition table. -/
theorem test_classes :
    classify ⟨false, false⟩ ⟨false, true⟩ = .forward ∧ classify ⟨false, false⟩ ⟨true, false⟩ = .reverse
      ∧ classify ⟨true, true⟩ ⟨true, false⟩ = .forward ∧ classify ⟨false, true⟩ ⟨true, false⟩ = .phaseError := by decide +kernel

/-- R78, R31: the calendar of R38. -/
theorem test_calendar : daysInMonth 2024 2 = 29 ∧ daysInMonth 2100 2 = 28 ∧ (⟨2024, 12, 31⟩ : Date).next = ⟨2025, 1, 1⟩ := by
  decide +kernel

/-- The reset state is what a cold start makes of the part as delivered (log 9). -/
theorem test_reset_is_cold_start :
    (match exec (.coldStart 0 State.reset.inputs) State.reset with
      | .next t => t.link.notices == State.reset.link.notices && t.points == State.reset.points && t.sup == State.reset.sup
      | _ => false) = true := by decide +kernel

/-! ### Witnesses: states and operands that meet a statement's hypotheses -/

theorem holding_slot (a : AuthRecord) (k : Slot) (b : AuthRecord) (h : (holding a State.reset).slot k = some b) :
    k = 0 ∧ b = a := slot_holding a State.reset reset_slot k b h

/-- A state whose clock, monitor, record timer and frame are each about to come to their end. -/
def nearEnd : State :=
  { holding { record .armed with timer := some ⟨.arming, 1⟩ }
      (at1 fun u =>
        { u with monitor := { u.monitor with active := true, ticks := 299999 } }) with
    clock := ⟨⟨⟨2024, 2, 28⟩, 86399⟩, 9999, ⟨2024, 2, 28⟩⟩
    sup := { State.reset.sup with reportTimer := some 1 }
    link := { State.reset.link with receiver := .frame [1], gap := 100 } }

theorem test_hyp_EmptyQueueTicks :
    State.reset.pending = [] ∧ State.reset.clock.phase < 9999 ∧ nearEnd.pending = [] ∧ 9999 ≤ nearEnd.clock.phase
      ∧ (nearEnd.point 0).monitor.active = true ∧ (nearEnd.point 0).monitor.frozen = false
      ∧ (nearEnd.slot 0).any (fun a => a.timer == some ⟨.arming, 1⟩) = true
      ∧ nearEnd.link.receiver = .frame [1]
      ∧ (match step nearEnd with
          | .next t =>
            decide ((t.point 0).monitor.ticks = (t.point 0).monitor.noFlowLimit)
              && (t.slot 0).any (fun a => a.timer == some ⟨.arming, 0⟩) && decide (100 < t.link.gap)
              && t.clock.rtc == ⟨⟨2024, 2, 29⟩, 0⟩
              && t.sup.reportTimer == some 0
              && t.pending == [.noFlowLimit 0, .armingTimerExpiry 0, .reportIntervalExpiry, .frameGapTimeout]
          | _ => false) = true := by decide +kernel

/-- A state with two hot cards and a held history. -/
def listed : State :=
  { State.reset with
    screening :=
      { State.reset.screening with
        hotList := [⟨12, 999999999999⟩, ⟨13, 17⟩]
        history := [⟨⟨16, 7000000001000004⟩, 1, 0, none, 0, ⟨deliveredDate, 0⟩⟩] } }

theorem test_hyp_HotListStaysOrdered : HotListOrdered listed ∧ ∃ t, step listed = .next t :=
  ⟨by unfold HotListOrdered; decide +kernel, _, rfl⟩

/-- `listed` with the live record of its card. -/
def live : State := holding (record .armed) listed

theorem live_slot (k : Slot) (a : AuthRecord) (h : live.slot k = some a) : k = 0 ∧ a = record .armed :=
  slot_holding (record .armed) listed (by decide +kernel) k a h

theorem test_hyp_HistoryStaysHeld : HistoryHeld live ∧ ∃ t, step live = .next t :=
  ⟨⟨by decide +kernel, by decide +kernel,
    fun k a h _ => by obtain ⟨rfl, rfl⟩ := live_slot k a h; decide +kernel⟩, _, rfl⟩

theorem test_hyp_OneLiveRecordStays : OneLiveRecord live ∧ ∃ t, step live = .next t :=
  ⟨fun j k a b ha hb _ _ _ => (live_slot j a ha).1.trans (live_slot k b hb).1.symm, _, rfl⟩

theorem test_hyp_StoresStayHeld : NoticesHeld live ∧ CalibrationHeld live ∧ ∃ t, step live = .next t :=
  ⟨by unfold NoticesHeld; decide +kernel, by unfold CalibrationHeld; decide +kernel, _, rfl⟩

/-- The record of `flowing`. -/
def flowingRecord : AuthRecord :=
  { record .delivering with bound := [0], lines := { blankLines with dsl := openLine } }

/-- Point 1 delivering under its record with its valve open. -/
def flowing : State :=
  pumping ⟨.running, true, [0], none, none⟩ (bound .fast fun u => { u with monitor := { u.monitor with active := true } })

theorem flowing_slot (k : Slot) (a : AuthRecord) (h : flowing.slot k = some a) :
    k = 0 ∧ a = { record .delivering with bound := [0], lines := { blankLines with dsl := openLine } } :=
  slot_holding _
    (at1 fun u =>
      { inState .fast { u with ctl := { u.ctl with binding := some ⟨1, .dsl⟩, delivery := some sampleDelivery } } with
        monitor := { u.monitor with active := true } })
    (by decide +kernel) k a h

theorem test_hyp_CountsStayHeld : CountsHeld flowing ∧ ∃ t, step flowing = .next t := by
  refine ⟨fun p => ⟨fun d hd => ?_, fun r hr => ?_⟩, _, rfl⟩
  · have : ∀ p : Point, (flowing.point p).ctl.delivery = none ∨ (flowing.point p).ctl.delivery = some sampleDelivery := by
      decide +kernel
    rcases this p with h | h <;> rw [h] at hd <;> cases hd
    unfold countHeld
    decide
  · have : ∀ p : Point, (flowing.point p).ctl.proving = none := by decide +kernel
    rw [this p] at hr
    cases hr

theorem test_hyp_HoldsStayKept : HoldsKept flowing ∧ ∃ t, step flowing = .next t := by
  refine ⟨fun k a h => ?_, _, rfl⟩
  obtain ⟨rfl, rfl⟩ := flowing_slot k a h
  unfold HoldKept SecondaryKept
  decide +kernel

theorem flowing_safe : ValvesSafe flowing := by
  unfold ValvesSafe PointSound
  exact ⟨by decide +kernel, fun h => absurd h (by decide +kernel)⟩

theorem test_hyp_ValvesStaySafe : ValvesSafe flowing ∧ ∃ t, step flowing = .next t := ⟨flowing_safe, _, rfl⟩

/-- `flowing` after an assertion of ESTOP that waits in the queue. -/
theorem test_hyp_ValvesStaySafe_latched :
    (match step { flowing with pending := [.estopAssertion] } with
      | .next t => t.sup.estopLatch && allPoints.all fun p => (t.point p).ctl.stage == .closed
      | _ => false) = true := by decide +kernel

theorem flowing_own : DemandsOwn flowing := fun k p h => by
  have : ∀ p : Point, (p ∈ (flowing.pump .a).demand → flowing.pumpOfPoint p = .a)
      ∧ (p ∈ (flowing.pump .b).demand → flowing.pumpOfPoint p = .b)
      ∧ (p ∈ (flowing.pump .c).demand → flowing.pumpOfPoint p = .c) := by decide +kernel
  cases k
  · exact (this p).1 h
  · exact (this p).2.1 h
  · exact (this p).2.2 h

/-- `flowing` with a LANE CONFIG in front that stores a product for S of a lane. -/
def configuring (lane product : Byte) : State :=
  { flowing with pending := [.laneConfig .station (.fields ⟨lane, 1, 0, 1, product, 1⟩)] }

/-- The command in front leaves the product of S, or finds S in no pump's demand. -/
theorem configuring_meets (lane product : Byte)
    (h : ∀ l : Lane, lane.toNat = l.val + 1 →
      readSProduct product = some (flowing.lane l).sProduct ∨ ∀ k ∈ allPumps, pointS l ∉ (flowing.pump k).demand) :
    ∀ c rest, (configuring lane product).pending = c :: rest → (∀ b x, c ≠ .frameByteReceived b x)
      ∧ ∀ d f (l : Lane), c = .laneConfig d (.fields f) → f.lane.toNat = l.val + 1 →
        readSProduct f.sProduct = some ((configuring lane product).lane l).sProduct
          ∨ ∀ k, pointS l ∉ ((configuring lane product).pump k).demand := by
  intro c rest e
  obtain ⟨rfl, rfl⟩ := List.cons.inj e
  refine ⟨fun b x => nofun, fun d f l e hl => ?_⟩
  cases e
  exact (h l hl).imp id fun g k => g k (by cases k <;> decide)

theorem test_hyp_OpenValvesKeepRunningPumps :
    (ValvesSafe flowing ∧ OpenOnRunningPump flowing ∧ DemandsOwn flowing)
      ∧ (∀ l : Lane, (1 : Byte).toNat = l.val + 1 →
          readSProduct 1 = some (flowing.lane l).sProduct ∨ ∀ k ∈ allPumps, pointS l ∉ (flowing.pump k).demand)
      ∧ (∀ l : Lane, (6 : Byte).toNat = l.val + 1 →
          readSProduct 2 = some (flowing.lane l).sProduct ∨ ∀ k ∈ allPumps, pointS l ∉ (flowing.pump k).demand)
      ∧ ∃ t, step (configuring 6 2) = .next t :=
  ⟨⟨flowing_safe, by unfold OpenOnRunningPump; decide +kernel, flowing_own⟩, by decide +kernel, by decide +kernel, _, rfl⟩

/-- A sale in slot 0, its serial in the sale queue. -/
def sold : State :=
  let s := holding (record .settled) State.reset
  { s with auth := { s.auth with sales := [1] } }

theorem test_hyp_SettledRecordsStay :
    sold.slot 0 = some (record .settled) ∧ (record .settled).state = .settled
      ∧ (∀ p b, (sold.point p).ctl.binding = some b → b.serial ≠ 1)
      ∧ (∀ c rest, sold.pending = c :: rest → (∀ d b, c ≠ .saleClear d b) ∧ ∀ b x, c ≠ .frameByteReceived b x)
      ∧ ∃ t, step sold = .next t := by
  refine ⟨by decide +kernel, rfl, fun p b h => ?_, fun c rest h => ?_, ⟨_, rfl⟩⟩
  · have : ∀ p : Point, (sold.point p).ctl.binding = none := by decide +kernel
    rw [this p] at h
    cases h
  · exact (List.cons_ne_nil c rest (h.symm.trans rfl)).elim

theorem test_hyp_FrameRoundTrip :
    (Instr.stopPoint .station (.fields ⟨18, 2⟩)).wellFormed = true
      ∧ encodeBody (.stopPoint .station (.fields ⟨18, 2⟩)) = some [0x22, 18, 2] := by decide +kernel

theorem test_hyp_FrameIsTaken :
    (Instr.stopPoint .station (.fields ⟨18, 2⟩)).wellFormed = true
      ∧ encodeBody (.stopPoint .station (.fields ⟨18, 2⟩)) = some [0x22, 18, 2] ∧ State.reset.link.receiver = .hunt
      ∧ frameDest State.reset.link.station 1 = some (Instr.stopPoint .station (.fields ⟨18, 2⟩)).dest
      ∧ (Instr.dayClose .broadcast (.fields ⟨2024, 2, 29⟩)).wellFormed = true
      ∧ encodeBody (.dayClose .broadcast (.fields ⟨2024, 2, 29⟩)) = some [0x38, 0x07, 0xE8, 2, 29]
      ∧ frameDest State.reset.link.station 0 = some (Instr.dayClose .broadcast (.fields ⟨2024, 2, 29⟩)).dest := by
  decide +kernel

def linked (r : Receiver) : State := { State.reset with link := { State.reset.link with receiver := r } }

theorem test_hyp_LinkEvents :
    (linked .reply).link.receiver = .reply ∧ (linked .reply).resetPending = false
      ∧ (linked .hunt).link.receiver = .hunt ∧ (linked (.frame [1, 3])).link.receiver = .frame [1, 3]
      ∧ (linked .hunt).link.receiver ≠ .reply := by decide +kernel

/-- A STATUS frame to station 1 has the CRC D8BC; it is discarded with one bit of it changed. One to station 9 is
discarded with its own CRC, 711D. Length bytes at 0, 241 and 255; bodies of 1 and of 240 bytes. -/
theorem test_hyp_LinkEvents_discarded :
    State.reset.link.receiver = .hunt ∧ crc16 [1, 1, 1] = 0xD8BC
      ∧ crc16 [1, 1, 1] ≠ (0xD8 : Byte) ++ (0xBD : Byte)
      ∧ (crc16 [9, 1, 1] = (0x71 : Byte) ++ (0x1D : Byte) ∧ (9 : Byte) ≠ 0 ∧ (9 : Byte).toNat ≠ State.reset.link.station.toNat)
      ∧ ([(1 : Byte)].length = 1 ∧ (List.replicate 240 (1 : Byte)).length ≤ 240)
      ∧ (0 : Byte) = 0 ∧ 240 < (241 : Byte).toNat ∧ 240 < (255 : Byte).toNat := by decide +kernel

theorem test_hyp_RequestsNotServed :
    (isRequest (.status .broadcast (.fields ())) = true ∧ admitsBroadcast (.status .broadcast (.fields ())) = false
        ∧ (Instr.status .broadcast (.fields ())).dest = .broadcast)
      ∧ (isRequest (.status .station .wrongLength) = true ∧ wrongLength (.status .station .wrongLength) = true
        ∧ (Instr.status .station .wrongLength).dest = .station) := by decide +kernel

theorem test_hyp_ReadersChangeNothing :
    onlyReads (.pointRead .station (.fields 19)) = true ∧ (Instr.pointRead .station (.fields 19)).dest = .station := by
  decide +kernel

/-- Point 1 unbound, with the delivery of a record that is gone. -/
def delivered1 : State := at1 fun u => { u with ctl := { u.ctl with delivery := some sampleDelivery } }

theorem test_hyp_ReadersAnswer :
    (1 : Byte).toNat = (0 : Point).val + 1 ∧ (18 : Byte).toNat = (17 : Point).val + 1
      ∧ (flowing.point 0).ctl.delivery = some sampleDelivery ∧ flowing.slotOfSerial sampleDelivery.serial = some 0
      ∧ flowing.slot 0 ≠ none ∧ (0 : Point) ∈ flowingRecord.bound ∧ (31 : Byte).toNat ≤ 31
      ∧ (delivered1.point 0).ctl.delivery = some sampleDelivery ∧ delivered1.slotOfSerial sampleDelivery.serial = none
      ∧ (let s := holding (record .armed) delivered1
        (s.point 0).ctl.delivery = some sampleDelivery ∧ s.slotOfSerial sampleDelivery.serial = some 0
          ∧ s.slot 0 = some (record .armed) ∧ 0 ∉ (record .armed).bound ∧ 0 ∉ (record .armed).delivered)
      ∧ live.slotOfSerial (1 : W16).toNat = some 0 ∧ live.slot 0 = some (record .armed)
      ∧ sold.auth.sales = 1 :: [] ∧ sold.slotOfSerial 1 = some 0 ∧ sold.slot 0 = some (record .settled)
      ∧ readCard ⟨16, 0x7000000001000004FFFF⟩ = some ⟨16, 7000000001000004⟩
      ∧ (⟨16, 7000000001000004⟩ : CardNumber).inRange = true
      ∧ listed.historyOf ⟨16, 7000000001000004⟩ ≠ none := by decide +kernel

theorem test_hyp_ReadersAnswer_refused :
    ((0 : Byte) = 0 ∧ 18 < (19 : Byte).toNat ∧ 18 < (255 : Byte).toNat ∧ 31 < (32 : Byte).toNat)
      ∧ State.reset.auth.sales = [] := by decide +kernel

theorem test_hyp_NoticeTaken :
    State.reset.link.notices = ⟨⟨deliveredDate, 0⟩, .restarted .cold 0 0⟩ :: []
      ∧ { State.reset.link with notices := [] }.notices = [] ∧ (2 : Byte) ≠ 0 ∧ (2 : Byte) ≠ 1 := by decide +kernel

theorem test_hyp_ProfileReadAndCount :
    (63 : Byte).toNat = (63 : Fin 64).val ∧ 64 ≤ (64 : Byte).toNat ∧ (64 : Byte).toNat ≤ 64 ∧ 64 < (65 : Byte).toNat := by
  decide

/-- A profile body with bounds met at their ends. -/
def profileBody : ProfileWriteF where
  index := 63
  rangeLow := 7000000001
  rangeHigh := 9999999999
  cls := 3
  active := 1
  tier := 3
  allLanes := 1
  products := 7
  prompts := 15
  predicate := 6
  window := 9999
  onlineMode := 3
  onlineTimeout := 61
  floorLimit := 999999
  preAuth := 999999
  defCap := 999999
  rfrCap := 999999
  maxAuths := 15
  dailyCap := 9999999

/-- Every code of the body is one R5 defines. -/
def codesSound (f : ProfileWriteF) : Bool :=
  f.cls.toNat - 1 ≤ 2 && f.cls.toNat != 0 && f.active.toNat ≤ 1 && f.allLanes.toNat ≤ 1 && f.products.toNat ≤ 7
    && f.prompts.toNat ≤ 15 && f.onlineMode.toNat != 0 && f.onlineMode.toNat ≤ 3

/-- The fields of a body that are out of range (R5), in the order the statement names them. -/
def fieldsWrong (f : ProfileWriteF) : List Nat :=
  ([(9999999999 < f.rangeLow.toNat, 2), (9999999999 < f.rangeHigh.toNat, 3), (3 < f.tier.toNat, 6),
    (f.products.toNat = 0, 8), (6 < f.predicate.toNat, 10), (f.window.toNat = 0 ∨ 9999 < f.window.toNat, 11),
    (999999 < f.floorLimit.toNat, 14), (f.preAuth.toNat = 0 ∨ 999999 < f.preAuth.toNat, 15),
    (999999 < f.defCap.toNat, 16), (999999 < f.rfrCap.toNat, 17), (15 < f.maxAuths.toNat, 18),
    (9999999 < f.dailyCap.toNat, 19), (f.rangeHigh.toNat < f.rangeLow.toNat, 3),
    (f.onlineMode.toNat = 3 ∧ f.floorLimit.toNat = 0, 14)] : List (Bool × Nat)).filterMap
      fun x => if x.1 then some x.2 else none

/-- The body with every field at a bound is stored; bodies beyond them are refused with the first field at fault. -/
theorem test_hyp_ProfileWriteStores :
    let f := profileBody
    (codesSound f = true ∧ f.index.toNat = (63 : Fin 64).val ∧ fieldsWrong f = [])
      ∧ codesSound { f with cls := 0 } = false ∧ codesSound { f with onlineMode := 4 } = false
      ∧ (codesSound { f with index := 64 } = true ∧ 64 ≤ ({ f with index := 64 } : ProfileWriteF).index.toNat)
      ∧ fieldsWrong { f with tier := 4, dailyCap := 10000000 } = [6, 19] ∧ fieldsWrong { f with window := 10000 } = [11]
      ∧ fieldsWrong { f with rangeHigh := 7000000000 } = [3] ∧ fieldsWrong { f with floorLimit := 0 } = [14] := by
  decide +kernel

theorem test_hyp_HotListQueried :
    HotListOrdered listed ∧ readCard ⟨13, 0x0000000000017FFFFFFF⟩ = some ⟨13, 17⟩
      ∧ (⟨13, 17⟩ : CardNumber).inRange = true := by unfold HotListOrdered; decide +kernel

/-- A full hot list of 12-digit numbers. -/
def full : State :=
  { State.reset with
    screening := { State.reset.screening with hotList := (List.range 1024).map fun n => ⟨12, n⟩ } }

/-- `listed` with the ARMED record of a hot card. -/
def hotArmed : State := holding { record .armed with card := ⟨13, 17⟩ } listed

/-- `listed` with the ARMED record of a card that is not listed. -/
def newArmed : State := holding { record .armed with card := ⟨12, 1⟩ } listed

theorem test_hyp_HotListChanges :
    HotListOrdered listed ∧ readCard ⟨12, 0x000000000001FFFFFFFF⟩ = some ⟨12, 1⟩ ∧ (⟨12, 1⟩ : CardNumber).inRange = true
      ∧ ⟨12, 1⟩ ∉ listed.screening.hotList ∧ listed.screening.hotList.length < 1024 ∧ listed.armedSlot ⟨12, 1⟩ = none
      ∧ readCard ⟨13, 0x0000000000017FFFFFFF⟩ = some ⟨13, 17⟩ ∧ (⟨13, 17⟩ : CardNumber).inRange = true
      ∧ ⟨13, 17⟩ ∈ listed.screening.hotList ∧ listed.armedSlot ⟨13, 17⟩ = none
      ∧ (HotListOrdered newArmed ∧ ⟨12, 1⟩ ∉ newArmed.screening.hotList ∧ newArmed.armedSlot ⟨12, 1⟩ = some 0
        ∧ newArmed.slot 0 ≠ none)
      ∧ HotListOrdered hotArmed ∧ ⟨13, 17⟩ ∈ hotArmed.screening.hotList ∧ hotArmed.armedSlot ⟨13, 17⟩ = some 0
      ∧ hotArmed.slot 0 ≠ none := by unfold HotListOrdered; decide +kernel

/-- A count above 20, a digit above 9 and a pad nibble other than 0xF; then counts of 11 and 20. -/
theorem test_hyp_HotListChanges_refused :
    (∀ w ∈ [(⟨21, 0x12345678901234567890⟩ : CardWire), ⟨12, 0x12345678901AFFFFFFFF⟩, ⟨12, 0x123456789012FFFFFFF0⟩],
        ¬ cardSound w)
      ∧ (cardSound ⟨11, 0x12345678901FFFFFFFFF⟩ ∧ (11 : Byte).toNat < 12)
      ∧ cardSound ⟨20, 0x12345678901234567890⟩ ∧ 19 < (20 : Byte).toNat := by
  unfold cardSound digitsSound
  decide +kernel

theorem test_hyp_HotListChanges_full :
    HotListOrdered full ∧ (⟨13, 17⟩ : CardNumber) ∉ full.screening.hotList ∧ full.screening.hotList.length = 1024 := by
  refine ⟨⟨?_, by simp [full]⟩, by simp [full], by simp [full]⟩
  simp only [full, List.pairwise_map]
  exact List.pairwise_lt_range.imp fun {a b} h => by simp [CardNumber.before, h]

theorem test_hyp_ClockSetAndDayClose :
    (State.reset.clock.business.before ⟨2099, 12, 31⟩ = true ∧ 31 ≤ daysInMonth 2099 12 ∧ State.reset.liveCount = 0)
      ∧ State.reset.clock.business.before ⟨2000, 1, 1⟩ = false ∧ live.liveCount ≠ 0
      ∧ ((86399 : W32).toNat ≤ 86399 ∧ ¬ (86400 : W32).toNat ≤ 86399 ∧ ¬ 30 ≤ daysInMonth 2099 2) := by decide +kernel

/-! #### Cards and records -/

/-- A profile that admits the sample card on every lane. -/
def sampleProfile : Profile :=
  { blankProfile with
    rangeLow := 7000000001, rangeHigh := 7000000001, active := true, tier := 3, allLanes := true
    products := ⟨true, true, true⟩, preAuth := 75000 }

/-- Lane 1 enabled, in tier 1, one profile valid, and a history. -/
def siteWith (e : Profile) (h : List HistoryEntry) : State :=
  { State.reset with
    lanes := State.reset.lanes.set 0 ⟨true, 1, true, .dsl, true⟩
    screening := { State.reset.screening with profiles := State.reset.screening.profiles.set 0 e, valid := 1, history := h } }

def openSite : State := siteWith sampleProfile []

def sampleRead : CardPresentedF := ⟨1, ⟨16, 0x7000000001000004FFFF⟩, 0x2612, 0, 1, 5000, []⟩

def sampleCardRead : CardRead := ⟨1, ⟨16, 7000000001000004⟩, ⟨26, 12⟩, 0, some 5000, []⟩

def sampleScreened : Screened :=
  ⟨0, 0, sampleProfile, ⟨true, false, true⟩, newEntry ⟨16, 7000000001000004⟩ ⟨deliveredDate, 0⟩⟩

theorem sample_readsAs : readsAs sampleRead sampleCardRead := ⟨true, by decide +kernel⟩

/-- A profile under which the sample card is ARMED at once, its odometer reading entered. -/
def offlineProfile : Profile :=
  { sampleProfile with
    onlineMode := .offlineOnly, floorLimit := 2000, prompts := ⟨true, false, false, false⟩, predicate := 4, window := 500 }

def odometerRead (n : Nat) : CardRead := { sampleCardRead with prompts := [⟨.odometer, 0, n⟩] }

/-- The entry of the sample card, with a last odometer of 1,000. -/
def held (auths volume failures : Nat) : HistoryEntry :=
  ⟨⟨16, 7000000001000004⟩, auths, volume, some 1000, failures, ⟨deliveredDate, 0⟩⟩

theorem test_hyp_CardAccepted :
    (readsAs sampleRead sampleCardRead ∧ laneReady sampleCardRead sampleScreened.lane openSite
        ∧ screensAs sampleCardRead sampleScreened openSite
        ∧ onlinePath sampleScreened.profile.onlineMode sampleScreened.profile.floorLimit openSite.link.acquirerUp = .await)
      ∧ (let f := { sampleRead with prompts := [⟨1, 0, 1001⟩] }
        let x := { sampleScreened with profile := offlineProfile, entry := held 0 0 0 }
        let s := siteWith offlineProfile [held 0 0 0]
        readsAs f (odometerRead 1001) ∧ laneReady (odometerRead 1001) x.lane s ∧ screensAs (odometerRead 1001) x s
          ∧ onlinePath x.profile.onlineMode x.profile.floorLimit s.link.acquirerUp = .armed false) := by
  unfold laneReady screensAs
  exact ⟨⟨sample_readsAs, by decide +kernel⟩, ⟨true, by decide +kernel⟩, by decide +kernel⟩

/-- `openSite` with the sample card on the hot list. -/
def openHot : State :=
  { openSite with screening := { openSite.screening with hotList := [⟨16, 7000000001000004⟩] } }

/-- `openSite` with a sale in every slot. -/
def soldOut : State := { openSite with auth := { openSite.auth with slots := Vector.replicate 24 (some (record .settled)) } }

/-- `openSite` in a month of its business date. -/
def inMonth (year month : Nat) : State := { openSite with clock := { openSite.clock with business := ⟨year, month, 1⟩ } }

theorem test_hyp_CardTurnedAway :
    (readsAs sampleRead sampleCardRead ∧ (stopped true true openSite).sup.estopLatch = true)
      ∧ (readsAs { sampleRead with lane := 7 } { sampleCardRead with lane := 7 } ∧ 6 < (7 : Byte).toNat
        ∧ openSite.sup.estopLatch = false)
      ∧ (readLane sampleCardRead.lane = some 0 ∧ (State.reset.lane 0).enabled = false)
      ∧ (let s := holding (record .armed) openSite
        s.sup.estopLatch = false ∧ (s.lane 0).enabled = true ∧ s.liveSlot 0 = some 0 ∧ s.slot 0 = some (record .armed))
      ∧ ((soldOut.lane 0).enabled = true ∧ soldOut.liveSlot 0 = none ∧ ∀ k, soldOut.slot k ≠ none)
      ∧ (laneReady sampleCardRead 0 openSite
        ∧ readsAs { sampleRead with card := ⟨16, 0x7000000001000005FFFF⟩ }
          { sampleCardRead with card := ⟨16, 7000000001000005⟩ }
        ∧ formatOk { sampleCardRead with card := ⟨16, 7000000001000005⟩ } = false)
      ∧ (laneReady sampleCardRead 0 (inMonth 2027 1) ∧ formatOk sampleCardRead = true
        ∧ 2000 + sampleCardRead.expiry.year < (inMonth 2027 1).clock.business.year)
      ∧ (let r := { sampleCardRead with expiry := ⟨26, 11⟩ }
        readsAs { sampleRead with expiry := 0x2611 } r ∧ laneReady r 0 (inMonth 2026 12) ∧ formatOk r = true
          ∧ 2000 + r.expiry.year = (inMonth 2026 12).clock.business.year
          ∧ r.expiry.month < (inMonth 2026 12).clock.business.month)
      ∧ (HotListOrdered openHot ∧ laneReady sampleCardRead 0 openHot
        ∧ sampleCardRead.expiry.past openHot.clock.business = false ∧ sampleCardRead.card ∈ openHot.screening.hotList) := by
  unfold HotListOrdered laneReady
  exact ⟨⟨sample_readsAs, rfl⟩, ⟨⟨true, by decide +kernel⟩, by decide +kernel⟩, by decide +kernel, by decide +kernel,
    by decide +kernel, ⟨by decide +kernel, ⟨true, by decide +kernel⟩, by decide +kernel⟩, by decide +kernel,
    ⟨⟨true, by decide +kernel⟩, by decide +kernel⟩, by decide +kernel⟩

/-- Reads refused before screening, at the boundaries of each field. -/
theorem test_hyp_CardTurnedAway_refused :
    (cardSound sampleRead.card ∧ digitsSound 4 sampleRead.expiry.toNat 4 ∧ sampleRead.restriction.toNat ≤ 3
        ∧ sampleRead.amountPresent = 1 ∧ 1 ≤ sampleRead.amount.toNat ∧ sampleRead.amount.toNat ≤ 999999)
      ∧ (¬ cardSound ⟨21, 0x7000000001000004FFFF⟩ ∧ ¬ digitsSound 4 (0x261A : W16).toNat 4
        ∧ ¬ (4 : Byte).toNat ≤ 3 ∧ ¬ (2 : Byte).toNat ≤ 1)
      ∧ (¬ 1 ≤ (0 : W32).toNat ∧ ¬ (1000000 : W32).toNat ≤ 999999)
      ∧ (¬ (List.replicate 5 (⟨1, 0, 5⟩ : PromptWire)).length ≤ 4 ∧ ¬ [(1 : Byte), 1].Nodup ∧ ¬ 1 ≤ (0 : Byte).toNat
        ∧ ¬ (5 : Byte).toNat ≤ 4 ∧ ¬ digitsSound 8 0xAFFFFFFF 1 ∧ ¬ digitsSound 8 0x11FFFFFF 1)
      ∧ ([(1 : Byte), 3].Nodup ∧ digitsSound 8 0xFFFFFFFF 0 ∧ digitsSound 8 0x12345678 9
        ∧ 9999999 < (10000000 : W32).toNat ∧ ¬ 9999999 < (9999999 : W32).toNat ∧ 99999 < (100000 : W32).toNat
        ∧ 8 < (9 : Byte).toNat ∧ readPromptKind 3 = some .driver ∧ readPromptKind 1 = some .odometer) := by
  unfold cardSound digitsSound
  decide +kernel

/-- A card read that passes the format steps, on the ready lane 1 of a state. -/
def reads (s : State) (r : CardRead) : Prop := laneReady r 0 s ∧ formatPasses r s

/-- The steps of screening, each at a profile and an entry that stop there. -/
theorem test_hyp_CardScreened :
    let r := sampleCardRead
    let p := siteWith
    reads openSite r
      ∧ (let s : State := { openSite with screening := { openSite.screening with valid := 0 } }
        reads s r ∧ s.screening.valid = 0)
      ∧ (let s := p { sampleProfile with rangeLow := 7000000002, rangeHigh := 7000000002 } []
        reads s r ∧ s.screening.valid ≠ 0 ∧ ∀ i, ¬ picks i r.card s)
      ∧ picks 0 r.card (p { sampleProfile with active := false } [])
      ∧ (picks 0 r.card (p { sampleProfile with tier := 0, allLanes := false } [])
        ∧ 0 < ((p { sampleProfile with tier := 0, allLanes := false } []).lane 0).tier)
      ∧ allowedOn r { sampleProfile with products := ⟨false, true, false⟩ } 0 openSite = ⟨false, false, false⟩
      ∧ (let s := holding { record .armed with lane := 1 } openSite
        reads s r ∧ picks 0 r.card s ∧ allowedOn r sampleProfile 0 s ≠ ⟨false, false, false⟩
          ∧ s.slotOfCard r.card = some 0 ∧ s.slot 0 = some { record .armed with lane := 1 }) := by
  simp only [reads, laneReady, formatPasses, HotListOrdered, picks]
  and_intros <;> decide +kernel

/-- The history step and after it, with the odometer asked for. -/
theorem test_hyp_CardScreened_history :
    let e := offlineProfile
    let asked (r : CardRead) (x : HistoryEntry) : Prop :=
      reads (siteWith e [x]) r ∧ picks 0 r.card (siteWith e [x]) ∧ (siteWith e [x]).slotOfCard r.card = none
        ∧ allowedOn r e 0 (siteWith e [x]) ≠ ⟨false, false, false⟩ ∧ entryOf r.card (siteWith e [x]) = x
    let passes (r : CardRead) : Bool := readingPasses e.predicate e.window ((enteredOdometer r.prompts).getD 0) (some 1000)
    asked sampleCardRead (held 15 0 0) ∧ asked sampleCardRead (held 0 0 3) ∧ asked sampleCardRead (held 0 0 2)
      ∧ asked (odometerRead 1501) (held 0 0 2) ∧ asked (odometerRead 1501) (held 0 0 1)
      ∧ asked (odometerRead 1500) (held 0 0 1)
      ∧ ({ e with maxAuths := 15 } : Profile).maxAuths ≤ (held 15 0 0).auths
      ∧ (e.prompts.has .odometer = true ∧ ∀ q ∈ sampleCardRead.prompts, q.kind ≠ .odometer)
      ∧ passes (odometerRead 1501) = false ∧ passes (odometerRead 1500) = true
      ∧ (match exec (.cardPresented .station (.fields { sampleRead with prompts := [⟨1, 0, 1501⟩] }))
            (siteWith e [held 0 0 2]) with
          | .next t => t.link.reply.any (fun x => x.data == .declined .odometer none)
            && t.screening.history == [held 0 0 3]
          | _ => false) = true := by
  simp only [reads, laneReady, formatPasses, HotListOrdered, picks]
  and_intros <;> decide +kernel

theorem test_hyp_FreshSerial :
    (holding (record .armed) State.reset).slot 0 = some (record .armed)
      ∧ ∀ k a, (holding { record .armed with serial := 7 } State.reset).slot k = some a →
          a.serial ≠ (if State.reset.auth.serial < 65535 then State.reset.auth.serial + 1 else 1) :=
  ⟨by decide +kernel, fun k a h => by obtain ⟨rfl, rfl⟩ := holding_slot _ k a h; decide +kernel⟩

/-- R43: with serials 65,535 and 1 held and the counter at 65,534, the counter passes both and goes to 2. -/
theorem test_serial_skips :
    let s := setSlot 5 (some { record .settled with serial := 65535 }) (holding (record .armed) State.reset)
    { s with auth := { s.auth with serial := 65534 } }.newSerial = 2
      ∧ Nat.repeat serialAfter 3 65534 = 2 := by decide +kernel

def waiting : State := holding { record .awaitOnline with hold := none } State.reset

/-- An approval with every field at its upper bound. -/
def approve : OnlineResultF := ⟨1, 1, 999999, [0x41, 0x7E], 1, 9999999, 1, 7⟩

/-- A decline, the amount 0. -/
def decline : OnlineResultF := ⟨1, 2, 0, [0x20], 0, 0, 0, 0⟩

theorem test_hyp_OnlineResultActs :
    let empty : OnlineResultF := ⟨1, 1, 1, [], 0, 0, 1, 0⟩
    (approve.reference.length ≤ 12 ∧ (∀ c ∈ approve.reference, 0x20 ≤ c.toNat ∧ c.toNat ≤ 0x7E)
        ∧ approve.amount.toNat ≤ 999999 ∧ approve.limitPresent.toNat ≤ 1 ∧ 1 ≤ approve.limit.toNat
        ∧ approve.limit.toNat ≤ 9999999 ∧ approve.narrowPresent.toNat ≤ 1 ∧ approve.narrow.toNat ≤ 7)
      ∧ waiting.liveSlot 0 = some 0 ∧ waiting.slotOfSerial approve.serial.toNat = some 0
      ∧ (waiting.slot 0).any (fun a => a.state == .awaitOnline) = true
      ∧ approve.result = 1 ∧ 0 < approve.amount.toNat
      ∧ ((⟨true, true, true⟩ : ProductSet).inter ⟨true, true, true⟩).isEmpty = false
      ∧ ((⟨true, true, true⟩ : ProductSet).inter ⟨false, false, false⟩).isEmpty = true
      ∧ empty.result = 1 ∧ 0 < empty.amount.toNat ∧ empty.reference.length ≤ 12
      ∧ decline.result = 2 ∧ decline.amount.toNat = 0 ∧ (∀ c ∈ decline.reference, 0x20 ≤ c.toNat ∧ c.toNat ≤ 0x7E)
      ∧ State.reset.slotOfSerial approve.serial.toNat = none := by decide +kernel

/-- A record in a state that has stood in, or has not, its late decline set or not. -/
def late (st : RecordState) (standin declined : Bool) : AuthRecord :=
  { record st with flags := { (record st).flags with standin := standin, lateDecline := declined } }

theorem test_hyp_OnlineResultActs_late :
    (∀ st ∈ [RecordState.armed, .delivering, .idleOpen, .settled], ∀ standin declined,
        (holding (late st standin declined) State.reset).slotOfSerial approve.serial.toNat = some 0
          ∧ (holding (late st standin declined) State.reset).slotOfSerial decline.serial.toNat = some 0
          ∧ (holding (late st standin declined) State.reset).slot 0 = some (late st standin declined)
          ∧ (late st standin declined).state = st ∧ (late st standin declined).flags.standin = standin
          ∧ (late st standin declined).flags.lateDecline = declined)
      ∧ approve.result = 1 ∧ decline.result = 2 := by decide +kernel

/-- A record that waits for the acquirer and may stand in. -/
def mayStandIn : AuthRecord :=
  { record .awaitOnline with
    snapshot := { (record .awaitOnline).snapshot with onlineMode := .onlinePreferred, floorLimit := 2000 }
    timer := some ⟨.online, 1⟩ }

theorem test_hyp_AcquirerStateActs :
    OneLiveRecord (holding mayStandIn State.reset) ∧ (holding mayStandIn State.reset).slot 0 = some mayStandIn
      ∧ mayStandIn.state = .awaitOnline ∧ mayStandIn.snapshot.onlineMode = .onlinePreferred
      ∧ 0 < mayStandIn.snapshot.floorLimit
      ∧ (holding (record .armed) State.reset).slot 0 = some (record .armed) ∧ (record .armed).state ≠ .awaitOnline :=
  ⟨fun j k a b ha hb _ _ _ => (holding_slot _ j a ha).1.trans (holding_slot _ k b hb).1.symm, by decide +kernel⟩

theorem test_hyp_CancelAndClear :
    (holding (record .armed) State.reset).slotOfSerial (1 : W16).toNat = some 0
      ∧ (holding (record .armed) State.reset).slot 0 = some (record .armed)
      ∧ (holding (record .idleOpen) State.reset).slotOfSerial (1 : W16).toNat = some 0
      ∧ (holding (record .idleOpen) State.reset).slot 0 = some (record .idleOpen)
      ∧ sold.slotOfSerial (1 : W16).toNat = some 0 ∧ sold.slot 0 = some (record .settled)
      ∧ flowing.slotOfSerial (1 : W16).toNat = some 0
      ∧ (flowing.slot 0).any (fun a => a.state == .delivering && !a.flags.closing && a.bound == [0]) = true
      ∧ (flowing.point 0).ctl.state = .fast
      ∧ (bound .waitPump id).slotOfSerial (1 : W16).toNat = some 0
      ∧ ((bound .waitPump id).slot 0).any (fun a => a.state == .delivering && !a.flags.closing) = true
      ∧ ((holding { record .delivering with flags := ⟨false, false, false, true, false, false, false⟩ }
          State.reset).slot 0).any (fun a => a.state == .delivering && a.flags.closing) = true := by decide +kernel

theorem test_hyp_CancelAndClear_unknown :
    (0 : W16) = 0 ∧ ∀ k a, State.reset.slot k = some a → a.serial ≠ (7 : W16).toNat :=
  ⟨rfl, fun k a h => (by rw [reset_slot] at h; cases h)⟩

theorem test_hyp_RecordTimersExpire :
    (∃ a, (holding { record .awaitOnline with timer := some ⟨.online, 1⟩ } State.reset).slot 0 = some a
        ∧ a.state = .awaitOnline ∧ a.timer = some ⟨.online, 1⟩
        ∧ (a.snapshot.onlineMode ≠ .onlinePreferred ∨ a.snapshot.floorLimit = 0))
      ∧ ((holding mayStandIn State.reset).slot 0 = some mayStandIn ∧ mayStandIn.state = .awaitOnline
        ∧ mayStandIn.timer = some ⟨.online, 1⟩ ∧ mayStandIn.snapshot.onlineMode = .onlinePreferred
        ∧ 0 < mayStandIn.snapshot.floorLimit
        ∧ (holding mayStandIn State.reset).liveSlot mayStandIn.lane = some 0)
      ∧ (∃ a, (holding { record .armed with timer := some ⟨.arming, 1⟩ } State.reset).slot 0 = some a
        ∧ a.state = .armed ∧ a.timer = some ⟨.arming, 1⟩)
      ∧ (∃ a, (holding { record .idleOpen with timer := some ⟨.idleClose, 1⟩ } State.reset).slot 0 = some a
        ∧ a.state = .idleOpen ∧ a.timer = some ⟨.idleClose, 1⟩)
      ∧ sold.slot 0 = some (record .settled) ∧ (record .settled).timer = none :=
  ⟨⟨_, rfl, by decide +kernel⟩, by decide +kernel, ⟨_, rfl, by decide +kernel⟩, ⟨_, rfl, by decide +kernel⟩,
    by decide +kernel⟩

/-- A state with point 1 lifted and in CALLING. -/
def called (s : State) : State := modCtl 0 (fun c => { c with nozzle := .lifted, state := .calling }) s

/-- Whether point 1 calls at a closed stage, slot 0 holds the lane's live record `a`, and a command binds the two. -/
def bindsFirst (i : Instr) (a : AuthRecord) (s : State) : Bool :=
  (s.point 0).ctl.state == .calling && (s.point 0).ctl.stage == .closed && s.slot 0 == some a
    && s.liveSlot a.lane == some 0
    && match exec i s with
      | .next t => (t.point 0).ctl.binding == some ⟨1, .dsl⟩ && (t.slot 0).any (fun b => b.bound == [0])
      | _ => false

/-- The lane's live record, approved or let in by a stand-in, with point 1 in CALLING: the point takes the answer. -/
theorem test_hyp_presented_calling :
    (waiting.slot 0).any (fun a => a.state == .awaitOnline
        && bindsFirst (.onlineResult .station (.fields approve)) a (called waiting)) = true
      ∧ (called waiting).slotOfSerial approve.serial.toNat = some 0
      ∧ bindsFirst (.onlineTimerExpiry 0) mayStandIn (called (holding mayStandIn State.reset)) = true := by decide +kernel

/-! #### Fuelling points -/

/-- No record is live on a lane of the reset state with points changed. -/
theorem no_live (s : State) (p : Point) (h : s.liveSlot (laneOf p) = none) (k : Slot) (a : AuthRecord) :
    s.liveSlot (laneOf p) = some k → s.slot k = some a →
      a.state = .awaitOnline ∨ a.flags.closing = true ∨ a.snapshot.allowed.has (s.productOf p) = false := by
  intro hk
  rw [h] at hk
  cases hk

/-- The reset state with an ARMED record that holds 5,000 cents and a price of 10,000 for DSL. -/
def armed : State :=
  holding (record .armed) { State.reset with products := { State.reset.products with dsl := ⟨10000, 300, 2000, 150, 200, 1000⟩ } }

def unfitted : State := { State.reset with lanes := State.reset.lanes.set 0 ⟨false, 0, false, .dsl, false⟩ }

theorem test_hyp_LiftActs :
    ((flowing.point 0).ctl.nozzle = .lifted)
      ∧ ((unfitted.point 1).ctl.nozzle = .hung ∧ unfitted.fitted 1 = false)
      ∧ (let s := at1 fun u => { u with ctl := { u.ctl with state := .finished } }
        (s.point 0).ctl.nozzle = .hung ∧ (s.point 0).ctl.state ≠ .idle ∧ (s.point 0).ctl.state ≠ .outOfService
          ∧ (s.point 0).ctl.state ≠ .proving)
      ∧ (let s := at1 fun u => { u with ctl := { u.ctl with state := .outOfService } }
        (s.point 0).ctl.nozzle = .hung ∧ s.fitted 0 = true ∧ (s.point 0).ctl.state = .outOfService)
      ∧ ((armed.point 0).ctl.nozzle = .hung ∧ placeOf 0 = .m ∧ (armed.point 0).ctl.state = .idle
        ∧ armed.liveSlot (laneOf 0) = some 0 ∧ armed.slot 0 = some (record .armed)
        ∧ (record .armed).state = .armed ∧ (record .armed).flags.closing = false
        ∧ (record .armed).snapshot.allowed.dsl = true ∧ (record .armed).lines.dsl = blankLine
        ∧ (record .armed).bound = [] ∧ (record .armed).delivered = [] ∧ (armed.pump .a).state = .stopped
        ∧ (armed.pump .a).demand = [] ∧ (armed.point (pointS (laneOf 0))).ctl.state ≠ .calling
        ∧ armed.products.dsl.closeAhead < min (volForMoney 5000 armed.products.dsl.price) armed.site.deliveryMax) := by
  decide +kernel

theorem test_hyp_LiftActs_calling :
    (State.reset.point 17).ctl.nozzle = .hung ∧ State.reset.fitted 17 = true ∧ (State.reset.point 17).ctl.state = .idle
      ∧ ∀ k a, State.reset.liveSlot (laneOf 17) = some k → State.reset.slot k = some a →
        a.state = .awaitOnline ∨ a.flags.closing = true ∨ a.snapshot.allowed.has (State.reset.productOf 17) = false :=
  ⟨by decide +kernel, by decide +kernel, by decide +kernel, fun k a => no_live _ 17 (by decide +kernel) k a⟩

/-- Point 1, 2 or 3 lifted and in CALLING under a record of its lane, DSL at 10,000 cents per 100 L. -/
def asking (p : Point) (a : AuthRecord) : State :=
  modCtl p (fun c => { c with nozzle := .lifted, state := .calling })
    (holding a { State.reset with
      products := { State.reset.products with dsl := ⟨10000, 300, 2000, 150, 200, 1000⟩ }
      lanes := State.reset.lanes.set 0 ⟨true, 0, true, .dsl, true⟩ })

/-- A DELIVERING record with its DSL line open to a limit, its cap for DEF as given. -/
def selling (limit cap : Nat) : AuthRecord :=
  { record .delivering with
    bound := [0], snapshot := { (record .delivering).snapshot with defCap := cap }
    lines := { blankLines with dsl := { openLine with limit := limit } } }

theorem test_hyp_PointsBind :
    (armed.fitted 0 = true ∧ (armed.point 0).ctl.stage = .closed ∧ armed.liveSlot (laneOf 0) = some 0
        ∧ (armed.point 0).ctl.nozzle = .hung ∧ (armed.point 0).ctl.state = .idle)
      ∧ (let s := holding (record .armed) (at1 fun u =>
          { u with ctl := { u.ctl with nozzle := .lifted, state := .outOfService, faultLatch := true } })
        s.fitted 0 = true ∧ (s.point 0).ctl.stage = .closed ∧ s.liveSlot (laneOf 0) = some 0
          ∧ (1 : Byte).toNat = (0 : Point).val + 1 ∧ (s.point 0).ctl.nozzle = .lifted
          ∧ (s.point 0).ctl.state = .outOfService ∧ (s.point 0).meter.loss = .normal) := by decide +kernel

/-- A record that each answer of `takesAnswer` reaches, at point 1, 2 or 3 in CALLING. -/
theorem test_hyp_PointsBind_answers :
    (∀ x ∈ [((0 : Point), record .awaitOnline), (0, record .armed), (2, selling 5000 1000), (1, selling 5000 0)],
        (asking x.1 x.2).slot 0 = some x.2 ∧ (asking x.1 x.2).slotOfSerial x.2.serial = some 0
          ∧ ((asking x.1 x.2).point x.1).ctl.state = .calling ∧ ((asking x.1 x.2).point x.1).ctl.stage = .closed)
      ∧ ¬ admits (record .awaitOnline) 0 (asking 0 (record .awaitOnline))
      ∧ (let a := { record .idleOpen with delivered := [0] }
        admits a 0 (asking 0 a) ∧ (0 : Point) ∈ a.delivered)
      ∧ (let s := asking 2 (selling 5000 1000)
        admits (selling 5000 1000) 2 s ∧ s.productOf 2 = .defl ∧ (selling 5000 1000).lines.defl = blankLine
          ∧ reservable (selling 5000 0) .defl = 0 ∧ 0 < reservable (selling 5000 1000) .defl
          ∧ reservable (selling 5000 4850) .defl = 4850)
      ∧ (let ls (cap : Nat) : Lines :=
          secondaryLines (selling 5000 cap) .defl (openedSecondary .defl 2 cap (asking 2 (selling 5000 cap)))
            (asking 2 (selling 5000 cap))
        2000 < (ls 1000).dsl.remainder ∧ (ls 4850).dsl.remainder ≤ 150)
      ∧ (placeOf 0 = .m ∧ (record .armed).lines.dsl = blankLine ∧ ¬ takesSatellite (record .armed) 0 (asking 0 (record .armed)))
      ∧ (let s := modCtl 1 (fun c => { c with nozzle := .lifted, state := .calling }) (asking 0 (record .armed))
        takesSatellite (record .armed) 0 s ∧ (s.point 1).ctl.stage = .closed)
      ∧ (placeOf 1 ≠ .m ∧ (selling 5000 0).lines.dsl.state = .opened ∧ (selling 5000 0).lines.dsl.hasMember 1 = false
        ∧ 2000 < (joinedLine (selling 5000 0).lines.dsl 1).remainder
        ∧ (joinedLine (selling 2000 0).lines.dsl 1).remainder ≤ 2000 ∧ 150 < (joinedLine (selling 2000 0).lines.dsl 1).remainder
        ∧ ((asking 1 (selling 2000 0)).point 0).ctl.state = .idle
        ∧ (joinedLine (selling 150 0).lines.dsl 1).remainder ≤ 150)
      ∧ (let a := selling 5000 0
        ¬ takesSatellite a 0 (asking 0 { a with bound := [] }) ∧ (a.lines.get .dsl).state = .opened) := by
  simp only [admits, takesSatellite]
  and_intros <;> decide +kernel

/-- M in FAST under the record, and its lane's S or D asking to bind. -/
def askingBeside (p : Point) (a : AuthRecord) : State :=
  modCtl 0
    (fun c =>
      { c with
        state := .fast, stage := .fast, nozzle := .lifted, binding := some ⟨1, .dsl⟩, delivery := some sampleDelivery })
    (asking p a)

/-- R75, R79, R80, R81: M's stage after S joins its line, or D reserves, with the remainder beyond the slow-down band,
in it at its bound, and at the close-ahead. -/
theorem test_bind_evaluates_line :
    (∀ x ∈ [((1 : Point), selling 2001 0, PointState.fast), (1, selling 2000 0, .slowDown), (1, selling 150 0, .finished),
          (2, selling 5000 2000, .fast), (2, selling 5000 3000, .slowDown), (2, selling 5000 4850, .finished)],
        ((askToBind x.1 (askingBeside x.1 x.2.1)).point 0).ctl.state = x.2.2)
      ∧ ((askToBind 1 (askingBeside 1 (selling 2000 0))).point 1).ctl.state = .waitPump
      ∧ ((askToBind 1 (askingBeside 1 (selling 150 0))).point 1).ctl.finishReason = some .limit
      ∧ ((askToBind 2 (askingBeside 2 (selling 5000 4850))).point 2).ctl.state = .waitPump := by decide +kernel

theorem test_hyp_HangUpActs :
    (State.reset.point 0).ctl.nozzle = .hung
      ∧ (let s := modCtl 1 (fun c => { c with nozzle := .lifted }) unfitted
        (s.point 1).ctl.nozzle = .lifted ∧ s.fitted 1 = false)
      ∧ (let s := at1 fun u => { u with ctl := { u.ctl with nozzle := .lifted } }
        (s.point 0).ctl.nozzle = .lifted ∧ (s.point 0).ctl.binding = none ∧ (s.point 0).ctl.state = .idle)
      ∧ (let s := at1 (inState .calling)
        (s.point 0).ctl.nozzle = .lifted ∧ s.fitted 0 = true ∧ (s.point 0).ctl.binding = none
          ∧ (s.point 0).ctl.state = .calling)
      ∧ (flowing.point 0).ctl.nozzle = .lifted ∧ flowing.fitted 0 = true
      ∧ (flowing.point 0).ctl.binding = some ⟨1, .dsl⟩ ∧ flowing.slotOfSerial 1 = some 0
      ∧ (flowing.slot 0).any (fun a => a.state == .delivering) = true
      ∧ (flowing.point 0).ctl.delivery = some sampleDelivery ∧ sampleDelivery.line = .dsl := by decide +kernel

theorem test_hyp_StopPointActs :
    ((0 : Byte) ≠ 1 ∧ (0 : Byte) ≠ 2) ∧ 18 < (19 : Byte).toNat ∧ (1 : Byte).toNat = (0 : Point).val + 1
      ∧ (flowing.point 0).ctl.state = .fast ∧ (flowing.point 0).ctl.stage ≠ .closed
      ∧ ((bound .suspended id).point 0).ctl.state = .suspended
      ∧ ((bound .stopping id).point 0).ctl.state = .stopping
      ∧ ((bound .waitPump id).point 0).ctl.state = .waitPump := by decide +kernel

/-- A suspended point, with its pump in a state. -/
def paused (st : PumpState) : State := pumping ⟨st, true, [], none, none⟩ (bound .suspended id)

theorem test_hyp_SuspendAndResume :
    18 < (19 : Byte).toNat ∧ (1 : Byte).toNat = (0 : Point).val + 1 ∧ (flowing.point 0).ctl.state = .fast
      ∧ ((bound .waitPump id).point 0).ctl.state = .waitPump ∧ ({ State.reset.sup with estopLatch := true } : Supervisor).estopLatch = true
      ∧ (paused .running).sup.estopLatch = false ∧ ((paused .running).point 0).ctl.state = .suspended
      ∧ ((paused .running).point 0).ctl.stage = .closed ∧ ((paused .running).point 0).ctl.stopPending = none
      ∧ ((bound .suspended fun u => { u with ctl := { u.ctl with stopPending := some .cancel } }).point 0).ctl.stopPending
        = some .cancel
      ∧ ((paused .failed).pump ((paused .failed).pumpOfPoint 0)).state = .failed
      ∧ ((paused .stopped).pump ((paused .stopped).pumpOfPoint 0)).state = .stopped
      ∧ ((paused .starting).pump ((paused .starting).pumpOfPoint 0)).state = .starting
      ∧ ((paused .running).pump ((paused .running).pumpOfPoint 0)).state = .running
      ∧ (((paused .running).product ((paused .running).productOf 0)).closeAhead : Int) < (paused .running).remainderOf 0
      ∧ (let s : State := { paused .runOn with
            products := { State.reset.products with dsl := ⟨10000, 300, 2000, 5000, 200, 0⟩ } }
        (s.pump .a).state = .runOn ∧ s.remainderOf 0 ≤ (s.product (s.productOf 0)).closeAhead) := by decide +kernel

theorem test_hyp_PointTimersExpire :
    (let s := bound .stopping fun u => withTimer .softStop { u with ctl := { u.ctl with softReason := some .cancel } };
        (s.point 0).ctl.state = .stopping ∧ (s.point 0).ctl.timer = some ⟨.softStop, 1⟩
          ∧ (s.point 0).ctl.softReason = some .cancel)
      ∧ (let s := bound .suspended (withTimer .suspension);
        (s.point 0).ctl.state = .suspended ∧ (s.point 0).ctl.timer = some ⟨.suspension, 1⟩)
      ∧ (let d := { sampleDelivery with endReason := some .limit }
        let s := bound .finished fun u => withTimer .drain { u with ctl := { u.ctl with delivery := some d } }
        (s.point 0).ctl.state = .finished ∧ (s.point 0).ctl.timer = some ⟨.drain, 1⟩
          ∧ (s.point 0).ctl.binding = some ⟨1, .dsl⟩ ∧ s.slotOfSerial 1 = some 0
          ∧ (s.slot 0).any (fun a => a.state == .delivering) = true ∧ (s.point 0).ctl.delivery = some d
          ∧ d.endReason = some .limit ∧ d.line = .dsl)
      ∧ (State.reset.point 0).ctl.timer = none := by decide +kernel

/-- Point 1 out of service with its latch set. -/
def failed1 (f : PointUnit → PointUnit) : State :=
  at1 fun u => f { u with ctl := { u.ctl with state := .outOfService, faultLatch := true } }

theorem test_hyp_FaultClears :
    18 < (19 : Byte).toNat ∧ (1 : Byte).toNat = (0 : Point).val + 1 ∧ (State.reset.point 0).ctl.state ≠ .outOfService
      ∧ (let s := failed1 fun u => { u with meter := { u.meter with loss := .declared .b } }
        (s.point 0).ctl.state = .outOfService ∧ (s.point 0).meter.loss = .declared .b)
      ∧ (((failed1 id).point 0).ctl.state = .outOfService ∧ ((failed1 id).point 0).meter.loss = .normal
        ∧ ((failed1 id).point 0).ctl.nozzle = .hung) := by decide +kernel

theorem test_hyp_FaultClears_calling :
    let s := failed1 fun u => { u with ctl := { u.ctl with nozzle := .lifted } }
    ((s.point 0).ctl.state = .outOfService ∧ (s.point 0).meter.loss = .normal ∧ s.fitted 0 = true
        ∧ (s.point 0).ctl.nozzle = .lifted)
      ∧ ∀ k a, s.liveSlot (laneOf 0) = some k → s.slot k = some a →
        a.state = .awaitOnline ∨ a.flags.closing = true ∨ a.snapshot.allowed.has (s.productOf 0) = false :=
  ⟨by decide +kernel, fun k a => no_live _ 0 (by decide +kernel) k a⟩

/-! #### Metering -/

/-- A point with a pair at its meter inputs and a cycle progress. -/
def metered (x : Pair) (n : Int) (u : PointUnit) : PointUnit :=
  { u with meter := { u.meter with pair := x, progress := .at n }, inputPair := x }

/-- A point with a meter pair, channel loss declared. -/
def degraded (x : Pair) (c : Channel) (u : PointUnit) : PointUnit :=
  { u with meter := { u.meter with pair := x, loss := .declared c } }

theorem test_hyp_TransitionsAreDecoded :
    unfitted.fitted 1 = false ∧ (State.reset.point 1).meter.pair = ⟨false, false⟩
      ∧ (let s := State.reset
        let u := s.point 0
        s.fitted 0 = true ∧ u.meter.pair ≠ ⟨false, true⟩ ∧ forwardStep u.meter.pair ⟨false, true⟩
          ∧ u.meter.loss = .normal ∧ u.meter.pair.a = false ∧ u.meter.progress = .at 0 ∧ u.meter.runA < 15
          ∧ u.meter.runB < 15 ∧ noiseFree u ∧ (s.counters 0).phase < 65535)
      ∧ (forwardStep ⟨false, true⟩ ⟨true, true⟩ ∧ forwardStep ⟨true, false⟩ ⟨false, false⟩)
      ∧ (¬ (forwardStep ⟨false, false⟩ ⟨true, true⟩ ∨ forwardStep ⟨true, true⟩ ⟨false, false⟩))
      ∧ (resetMeter ⟨false, true⟩).pair = ⟨false, true⟩ ∧ (resetMeter ⟨false, true⟩).progress = .abandoned := by
  unfold forwardStep noiseFree
  decide +kernel

/-- `flowing` with the counts of its delivery and the pair and progress of its meter. -/
def counting (x : Pair) (n : Int) (d : Delivery) : State :=
  modPoint 0 (fun u => metered x n { u with ctl := { u.ctl with delivery := some d } }) flowing

theorem boundTo_of (s : State) (a : AuthRecord) (d : Delivery)
    (h : (s.point 0).ctl.binding = some ⟨1, d.line⟩ ∧ s.slotOfSerial 1 = some 0 ∧ s.slot 0 = some a
      ∧ (s.point 0).ctl.delivery = some d ∧ (a.lines.get d.line).hasMember 0 = true) : boundTo 0 0 a d s :=
  ⟨⟨⟨1, d.line⟩, h.1, h.2.1, rfl⟩, h.2.2.1, h.2.2.2.1, h.2.2.2.2⟩

theorem test_hyp_CountsAreTaken :
    (let s := at1 fun u => metered ⟨true, false⟩ 3 { u with meter := { u.meter with unauthorised := 19 } };
      s.fitted 0 = true ∧ countsForward (s.point 0).meter ⟨false, false⟩ ∧ (s.point 0).ctl.binding = none
        ∧ (s.point 0).ctl.state ≠ .proving ∧ (s.point 0).monitor.active = false ∧ (s.point 0).meter.unauthorised = 19)
      ∧ countsForward ((at1 (degraded ⟨true, true⟩ .a)).point 0).meter ⟨false, true⟩
      ∧ countsForward ((at1 (degraded ⟨true, true⟩ .b)).point 0).meter ⟨true, false⟩
      ∧ (let s := counting ⟨true, false⟩ 3 sampleDelivery;
        s.fitted 0 = true ∧ countsForward (s.point 0).meter ⟨false, false⟩ ∧ boundTo 0 0 flowingRecord sampleDelivery s
          ∧ (s.point 0).ctl.state ≠ .proving) := by
  refine ⟨?_, ?_, ?_, ?_, ?_, boundTo_of _ _ _ ?_, ?_⟩ <;> (try unfold countsForward) <;> decide +kernel

theorem test_hyp_CountsAreTaken_nowhere :
    let s := at1 (metered ⟨false, true⟩ (-3))
    s.fitted 0 = true ∧ countsReverse (s.point 0).meter ⟨false, false⟩ ∧ (s.point 0).ctl.binding = none
      ∧ (s.point 0).ctl.state ≠ .proving ∧ noiseFree (s.point 0) := by
  unfold countsReverse noiseFree
  decide +kernel

theorem test_hyp_CountsAreTaken_reverse :
    let far : Delivery := { sampleDelivery with net := 100, peak := 120 }
    let near : Delivery := { sampleDelivery with net := 101, peak := 120 }
    let s := counting ⟨false, true⟩ (-3)
    countsReverse ((s far).point 0).meter ⟨false, false⟩ ∧ countsReverse ((s near).point 0).meter ⟨false, false⟩
      ∧ boundTo 0 0 flowingRecord far (s far)
      ∧ boundTo 0 0 flowingRecord near (s near) ∧ ((s far).point 0).ctl.state ≠ .proving
      ∧ ((s far).point 0).ctl.state ≠ .finished ∧ ((s far).point 0).meter.reverseFound = false
      ∧ (((s far).point 0).config.reverseAllowance : Int) < max far.peak (far.net - 1) - (far.net - 1)
      ∧ (max near.peak (near.net - 1) - (near.net - 1) : Int) ≤ ((s near).point 0).config.reverseAllowance := by
  refine ⟨?_, ?_, boundTo_of _ _ _ ?_, boundTo_of _ _ _ ?_, ?_, ?_, ?_, ?_, ?_⟩ <;> (try unfold countsReverse) <;> decide +kernel

/-- `counting` at the end of a forward cycle, in a state, with a stored entry for DSL. -/
def closing (st : PointState) (e : ProductEntry) : State :=
  let s := modCtl 0 (fun c => { c with state := st, softReason := some .cancel }) (counting ⟨true, false⟩ 3 sampleDelivery)
  { s with products := { s.products with dsl := e } }

/-- What LimitsClose asks of a state and the delivery's counts. -/
theorem closing_meets (st : PointState) (e : ProductEntry)
    (h : (closing st e).slotOfSerial 1 = some 0 ∧ (closing st e).slot 0 = some flowingRecord) :
    (closing st e).fitted 0 = true ∧ countsForward ((closing st e).point 0).meter ⟨false, false⟩
      ∧ boundTo 0 0 flowingRecord sampleDelivery (closing st e) ∧ ((closing st e).point 0).ctl.state = st :=
  ⟨rfl, .inl ⟨rfl, rfl, rfl, rfl, by show 0 < 15; decide⟩,
    boundTo_of _ _ _ ⟨rfl, h.1, h.2, rfl, by decide +kernel⟩, rfl⟩

theorem test_hyp_LimitsClose :
    let v := volumeOf (State.reset.point 0).cal 101
    let r : Int := (openLine.limit : Int) - (min (memberSum (setMember 0 v openLine.members)) 9999999 : Nat)
    let atLimit : ProductEntry := ⟨1, 300, 2000, 5000, 200, 0⟩
    let nearLimit : ProductEntry := ⟨1, 300, 5000, 150, 200, 0⟩
    let far : ProductEntry := ⟨1, 300, 2000, 150, 200, 0⟩
    let farther : ProductEntry := ⟨1, 2000, 2000, 150, 200, 0⟩
    (∀ x ∈ [(PointState.fast, atLimit), (.fast, nearLimit), (.softStart, far), (.softStart, farther), (.stopping, far)],
        (closing x.1 x.2).slotOfSerial 1 = some 0 ∧ (closing x.1 x.2).slot 0 = some flowingRecord)
      ∧ (flowingRecord.lines.get sampleDelivery.line).state = .opened
      ∧ (flowing.point 0).monitor.count + 1 < (flowing.point 0).monitor.size ∧ noiseFree (flowing.point 0)
      ∧ (flowing.point 0).ctl.startRef = 0 ∧ (flowing.point 0).ctl.stopRef = 0 ∧ flowing.productOf 0 = .dsl
      ∧ r ≤ atLimit.closeAhead ∧ nearLimit.closeAhead < r ∧ r ≤ nearLimit.slowDown
      ∧ far.slowDown < r ∧ 0 + far.startBand ≤ v ∧ v < 0 + farther.startBand ∧ 0 + far.softStop ≤ v := by
  unfold noiseFree
  decide +kernel

/-- `closing` in FAST with S of the lane a second member of the line, in FAST too. -/
def closingBoth (e : ProductEntry) : State :=
  holding { flowingRecord with
      bound := [0, 1], lines := { blankLines with dsl := { openLine with members := [⟨0, 0⟩, ⟨1, 0⟩] } } }
    (modCtl 1 (fun c => { c with state := .fast, stage := .fast, binding := some ⟨1, .dsl⟩ }) (closing .fast e))

theorem test_hyp_LimitsClose_second :
    let s := closingBoth ⟨1, 300, 5000, 150, 200, 0⟩
    let l : Line := { openLine with members := [⟨0, 0⟩, ⟨1, 0⟩] }
    let a : AuthRecord := { flowingRecord with bound := [0, 1], lines := { blankLines with dsl := l } }
    let r : Int := (l.limit : Int) - (min (memberSum (setMember 0 (volumeOf (s.point 0).cal 101) l.members)) 9999999 : Nat)
    boundTo 0 0 a sampleDelivery s ∧ (1 : Point) ≠ 0 ∧ l.hasMember 1 = true
      ∧ (s.point 1).ctl.binding = some ⟨1, .dsl⟩ ∧ (s.point 1).ctl.state = .fast ∧ 150 < r ∧ r ≤ 5000 :=
  ⟨boundTo_of _ _ _ ⟨rfl, by decide +kernel, by decide +kernel, rfl, by decide +kernel⟩, by decide +kernel⟩

/-- A state whose no-flow limit has been reached at point 1. -/
def noFlow (s : State) : State := modMonitor 0 (fun m => { m with active := true, ticks := m.noFlowLimit }) s

theorem test_hyp_NoFlowCloses :
    (State.reset.point 0).monitor.active = false
      ∧ ((flowing.point 0).monitor.active = true ∧ (flowing.point 0).monitor.ticks < (flowing.point 0).monitor.noFlowLimit)
      ∧ (let s := noFlow flowing
        (s.point 0).monitor.active = true ∧ (s.point 0).monitor.frozen = false
          ∧ (s.point 0).monitor.noFlowLimit ≤ (s.point 0).monitor.ticks
          ∧ (s.counters 0).noflow < 65535 ∧ (s.point 0).ctl.binding ≠ none
          ∧ (s.point 0).ctl.state ≠ .finished ∧ (s.point 0).ctl.state ≠ .proving
          ∧ (s.point 0).ctl.stage ≠ .closed)
      ∧ (let s := noFlow (proving .fast none)
        (s.point 0).monitor.active = true ∧ (s.point 0).monitor.frozen = false ∧ (s.point 0).ctl.state = .proving
          ∧ (s.point 0).monitor.noFlowLimit ≤ (s.point 0).monitor.ticks
          ∧ (s.point 0).ctl.proving.any (fun r => r.phase == .fast) = true) := by decide +kernel

/-- A state with the flow monitor and surge hold of point 1, its meter at the end of a forward cycle. -/
def windowed (count settle ticks : Nat) (hold : Bool) (s : State) : State :=
  modPoint 0 (fun u =>
    metered ⟨true, false⟩ 3
      { u with
        monitor :=
          { u.monitor with
            active := true, size := 8, count := count, settle := settle, ticks := ticks, reference := some 160 }
        config := { u.config with surgeHold := hold } }) s

theorem flowing_calm (count settle ticks : Nat) (hold : Bool) : calmCount 0 (windowed count settle ticks hold flowing) :=
  have h : calmCount 0 (windowed 0 0 0 true flowing) :=
    .inl ⟨0, flowingRecord, sampleDelivery,
      boundTo_of _ _ _ ⟨rfl, by decide +kernel, by decide +kernel, rfl, by decide +kernel⟩, by decide +kernel,
      by decide +kernel⟩
  h

theorem proving_calm (count settle ticks : Nat) (hold : Bool) :
    calmCount 0 (windowed count settle ticks hold (proving .fast none)) :=
  .inr ⟨rfl, rfl, _, rfl, by decide, nofun, nofun⟩

/-- With 160 ticks in the last window and a surge code of 3, a fourth of it is allowed: 120 to 200 ticks pass, 119 is a
surge and 201 a drop. -/
theorem test_hyp_FlowWindows :
    (∀ s ∈ [windowed 0 3 100 true flowing, windowed 7 3 119 true (proving .fast none)],
        s.fitted 0 = true ∧ countsForward (s.point 0).meter ⟨false, false⟩ ∧ noiseFree (s.point 0)
          ∧ (s.point 0).monitor.active = true ∧ (s.point 0).monitor.frozen = false)
      ∧ (let u := (windowed 7 3 119 true flowing).point 0
        u.monitor.size ≤ u.monitor.count + 1 ∧ u.ctl.state = .fast ∧ u.monitor.reference = some 160
          ∧ 160 * (u.config.surgeCode + 1) / 16 = 40)
      ∧ ((windowed 0 3 100 true flowing).point 0).monitor.count + 1 < 8
      ∧ (160 - 120 ≤ 40 ∧ 200 - 160 ≤ 40) ∧ 40 < 201 - 160 ∧ 40 < 160 - 119
      ∧ (windowed 7 3 119 true (proving .fast none)).provePhase 0 = some .fast := by
  unfold countsForward noiseFree
  decide +kernel

/-- A unit whose noise window holds a number of phase errors, newest first. -/
def noisy (c : NoiseCriterion) (n : Nat) (u : PointUnit) : PointUnit :=
  { u with meter := { u.meter with marks := List.replicate n true }, config := { u.config with noise := c } }

/-- The noise bit of point 1 after a phase error. -/
def metAfter (s : State) : Bool :=
  match exec (.meterTransition 0 ⟨true, true⟩ .placeFirst) s with
  | .next t => (t.point 0).meter.noiseMet
  | _ => false

theorem test_hyp_NoiseActs :
    (State.reset.fitted 0 = true ∧ (State.reset.point 0).meter.pair ≠ ⟨true, true⟩
        ∧ ¬ (forwardStep ⟨false, false⟩ ⟨true, true⟩ ∨ forwardStep ⟨true, true⟩ ⟨false, false⟩)
        ∧ forwardStep ⟨false, false⟩ ⟨false, true⟩)
      ∧ metAfter (at1 (noisy .strict 7)) = false ∧ metAfter (at1 (noisy .strict 8)) = true
      ∧ metAfter (at1 (noisy .lenient 31)) = false ∧ metAfter (at1 (noisy .lenient 32)) = true
      ∧ (let s := modPoint 0 (noisy .strict 8) flowing
        metAfter s = true ∧ (s.point 0).meter.noiseMet = false ∧ (s.point 0).ctl.binding ≠ none
          ∧ (s.point 0).ctl.state = .fast)
      ∧ (let s := modPoint 0 (noisy .strict 8) (bound .finished id)
        metAfter s = true ∧ (s.point 0).ctl.binding ≠ none ∧ (s.point 0).ctl.state = .finished)
      ∧ (∀ x ∈ [ProvePhase.fast, .drain, .done],
        let s := modPoint 0 (noisy .strict 8) (proving x none)
        metAfter s = true ∧ (s.point 0).ctl.binding = none ∧ (s.point 0).ctl.state = .proving
          ∧ s.provePhase 0 = some x) := by
  unfold forwardStep
  decide +kernel

/-- A unit whose channel B has made 15 steps in a row. -/
def losing (u : PointUnit) : PointUnit := { u with meter := { u.meter with runB := 15 } }

/-- A unit in declared loss of B at the end of a forward cycle, with its clear run and its run of B. -/
def clearing (clear runB : Nat) (u : PointUnit) : PointUnit :=
  metered ⟨true, false⟩ 3
    { u with meter := { u.meter with loss := .declared .a, forwardRun := 3, clearRun := clear, runB := runB } }

theorem test_hyp_ChannelLossActs :
    (∀ s ∈ [at1 losing, modPoint 0 losing flowing, modPoint 0 losing (proving .fast none)],
        let m := (s.point 0).meter
        s.fitted 0 = true ∧ m.loss = .normal ∧ m.progress ≠ .at 3 ∧ m.progress ≠ .at (-3) ∧ noiseFree (s.point 0)
          ∧ forwardStep m.pair ⟨false, true⟩ ∧ channelLevel m.pair .b ≠ channelLevel ⟨false, true⟩ .b
          ∧ 15 ≤ m.run .b ∧ m.run .b ≠ 16 ∧ (s.counters 0).chloss < 65535)
      ∧ ((at1 losing).point 0).ctl.state = .idle ∧ ((modPoint 0 losing flowing).point 0).ctl.state ≠ .proving
      ∧ (proving .fast none).provePhase 0 = some .fast
      ∧ (∀ clear ∈ [62, 63],
        let s := at1 (clearing clear 0)
        let m := (s.point 0).meter
        m.loss = .declared .a ∧ m.pair = ⟨true, false⟩ ∧ m.progress = .at 3 ∧ 3 ≤ m.forwardRun ∧ m.clearRun = clear
          ∧ noiseFree (s.point 0) ∧ (s.sup.pointAlarms[(0 : Point).val]).channelLoss.edge = .rise)
      ∧ (let m := ((at1 (clearing 5 15)).point 0).meter
        forwardStep ⟨true, true⟩ m.pair ∧ ¬ forwardStep m.pair ⟨true, true⟩
          ∧ channelLevel m.pair .b ≠ channelLevel ⟨true, true⟩ .b ∧ 15 ≤ m.run .b ∧ m.run .b ≠ 16
          ∧ channelLevel ⟨true, true⟩ .a = true)
      ∧ (let c := { (State.reset.sup.pointAlarms[(0 : Point).val]) with channelLoss := ⟨false, true, .riseFall, false⟩ }
        let s : State :=
          { at1 (clearing 63 0) with
            sup := { State.reset.sup with pointAlarms := State.reset.sup.pointAlarms.set 0 c } }
        let cell := (s.sup.pointAlarms[(0 : Point).val]).channelLoss
        cell.edge = .riseFall ∧ cell.mask = true ∧ cell.notified = false ∧ s.link.notices.length ≤ 56) := by
  unfold forwardStep noiseFree
  decide +kernel

theorem test_hyp_ChannelLossActs_bound :
    boundTo 0 0 flowingRecord sampleDelivery (modPoint 0 losing flowing) :=
  boundTo_of _ _ _ ⟨rfl, by decide +kernel, by decide +kernel, rfl, by decide +kernel⟩

/-! #### Pumps -/

/-- Every pump with its ready check enabled. -/
def checked (s : State) : State :=
  { s with site := { s.site with pumpA := { s.site.pumpA with readyCheck := true } } }

/-- Pump A alone, on the reset state. -/
def pumpA (r : PumpRecord) : State := pumping r State.reset

theorem test_hyp_PumpsComeUp :
    (let s := checked (pumpA ⟨.starting, false, [], some ⟨.spinUp, 0⟩, none⟩);
      (s.pump .a).state = .starting ∧ (s.pump .a).timer = some ⟨.spinUp, 0⟩ ∧ (s.pumpSettings .a).readyCheck = true
        ∧ (s.pump .a).ready = false)
      ∧ (let s := pumping ⟨.starting, false, [0], some ⟨.spinUp, 0⟩, none⟩
          { bound .waitPump id with products := ⟨⟨10000, 300, 2000, 150, 200, 0⟩, ⟨1, 300, 1000, 100, 200, 1000⟩,
            ⟨1, 100, 300, 40, 50, 200⟩⟩ };
        (s.pump .a).state = .starting ∧ (s.pump .a).timer = some ⟨.spinUp, 0⟩ ∧ (s.pumpSettings .a).readyCheck = false
          ∧ (s.pump .a).demand ≠ []
          ∧ (∀ p ∈ (s.pump .a).demand, s.pumpOfPoint p = .a ∧ (s.point p).ctl.state = .waitPump
            ∧ (s.point p).ctl.stage = .closed ∧ (s.product (s.productOf p)).closeAhead < s.remainderOf p))
      ∧ (let s := pumping ⟨.starting, true, [0], some ⟨.spinUp, 0⟩, none⟩
          { bound .waitPump id with products := ⟨⟨10000, 300, 2000, 5000, 200, 0⟩, ⟨1, 300, 1000, 100, 200, 1000⟩,
            ⟨1, 100, 300, 40, 50, 200⟩⟩ };
        (s.pump .a).state = .starting ∧ s.pumpOfPoint 0 = .a ∧ (s.point 0).ctl.state = .waitPump
          ∧ s.remainderOf 0 ≤ (s.product (s.productOf 0)).closeAhead)
      ∧ (let s := pumping ⟨.starting, false, [0], some ⟨.spinUp, 0⟩, none⟩ (proving .pumpWait none);
        (s.pump .a).state = .starting ∧ s.pumpOfPoint 0 = .a ∧ (s.point 0).ctl.stage = .closed
          ∧ (s.point 0).ctl.state = .proving ∧ s.provePhase 0 = some .pumpWait)
      ∧ (let s := pumpA ⟨.starting, false, [], some ⟨.readyWait, 1⟩, none⟩;
        (s.pump .a).state = .starting ∧ (s.pump .a).timer = some ⟨.readyWait, 1⟩
          ∧ (s.pumpSettings .a).readyCheck = false ∧ (s.pump .a).ready = false)
      ∧ (let s := checked (pumpA ⟨.starting, false, [], some ⟨.readyWait, 1⟩, none⟩);
        (s.pump .a).state = .starting ∧ (s.pump .a).timer = some ⟨.readyWait, 1⟩ ∧ (s.pump .a).ready = false
          ∧ (s.pumpSettings .a).readyCheck = true)
      ∧ ((pumpA ⟨.running, true, [], none, none⟩).pump .a).ready = true
      ∧ ((State.reset.pump .a).ready = false ∧ (State.reset.pump .a).state ≠ .starting ∧ (State.reset.pump .a).timer = none)
      ∧ (let s := pumpA ⟨.runOn, true, [], some ⟨.runOn, 0⟩, none⟩;
        (s.pump .a).state = .runOn ∧ (s.pump .a).timer = some ⟨.runOn, 0⟩)
      ∧ ((0 : Byte) = 0 ∧ 3 < (4 : Byte).toNat)
      ∧ ((pumpA ⟨.failed, false, [], none, some .readyLost⟩).pump .a).state = .failed := by decide +kernel

theorem test_hyp_PumpsFail :
    (let s := checked (pumping ⟨.starting, false, [0], some ⟨.readyWait, 0⟩, none⟩ (bound .waitPump id));
      (s.pump .a).state = .starting ∧ (s.pump .a).timer = some ⟨.readyWait, 0⟩ ∧ (s.pumpSettings .a).readyCheck = true
        ∧ (s.point 0).ctl.binding ≠ none ∧ (s.point 0).ctl.state ≠ .finished ∧ (s.point 0).ctl.state ≠ .proving
        ∧ s.link.notices.length ≤ 56)
      ∧ (State.reset.pump .a).ready = false
      ∧ (let s := checked flowing;
        (s.pump .a).ready = true ∧ (s.pumpSettings .a).readyCheck = true ∧ (s.pump .a).state = .running)
      ∧ (let s := checked (pumping ⟨.running, true, [0], none, none⟩ (proving .fast none));
        (s.pump .a).ready = true ∧ (s.pump .a).state = .running ∧ (s.point 0).ctl.state = .proving
          ∧ (s.point 0).ctl.proving.any (fun r => r.phase == .fast) = true)
      ∧ ((flowing.pump .a).ready = true ∧ (flowing.pumpSettings .a).readyCheck = false) := by decide +kernel

/-! #### Supervisor -/

theorem test_hyp_EstopStops :
    (stopped true true State.reset).sup.estopInput = true
      ∧ ((stopped false true State.reset).sup.estopInput = false ∧ (stopped false true State.reset).sup.estopLatch = true)
      ∧ (flowing.sup.estopInput = false ∧ flowing.sup.estopLatch = false
        ∧ (flowing.sup.siteAlarms.get .estop).mask = true ∧ flowing.sup.noticeBlock = false
        ∧ flowing.link.notices.length < 64 ∧ (flowing.point 0).ctl.binding ≠ none
        ∧ (flowing.point 0).ctl.state ≠ .finished ∧ (flowing.point 0).ctl.state ≠ .proving
        ∧ (flowing.pump .a).state = .running
        ∧ (flowing.slot 0).any (fun a => a.state == .delivering && !a.flags.closing) = true ∧ flowing.slot 1 = none)
      ∧ (((proving .fast none).point 0).ctl.state = .proving
        ∧ ((proving .fast none).point 0).ctl.proving.any (fun r => r.phase == .fast) = true)
      ∧ (∀ st ∈ [RecordState.awaitOnline, .armed, .idleOpen, .settled],
        ((holding (record st) State.reset).slot 0).any (fun a => a.state == st) = true) := by decide +kernel

/-- The reset state with the edge selects of the two level kinds. -/
def edges (e c : EdgeSelect) (s : State) : State :=
  { s with
    sup :=
      { s.sup with siteAlarms := { s.sup.siteAlarms with estop := ⟨false, true, e, false⟩, calEnabled := ⟨false, true, c, false⟩ } } }

def calOn (s : State) : State := { s with cal := { s.cal with enabled := true } }

theorem test_hyp_LevelInputsPresent :
    State.reset.sup.estopInput = false ∧ State.reset.cal.enabled = false
      ∧ ((stopped true true State.reset).sup.estopInput = true
        ∧ (stopped true true State.reset).sup.siteAlarms.estop.edge = .rise)
      ∧ (let s := edges .riseFall .rise (stopped true true State.reset);
        s.sup.estopInput = true ∧ s.sup.siteAlarms.estop.edge = .riseFall ∧ s.sup.siteAlarms.estop.mask = true
          ∧ s.sup.noticeBlock = false ∧ s.link.notices.length < 64)
      ∧ ((calOn State.reset).cal.enabled = true ∧ (calOn State.reset).sup.siteAlarms.calEnabled.edge = .rise)
      ∧ ((edges .rise .riseFall (calOn State.reset)).cal.enabled = true
        ∧ (edges .rise .riseFall (calOn State.reset)).sup.siteAlarms.calEnabled.edge = .riseFall)
      ∧ ((stopped false true State.reset).sup.estopInput = false) := by decide +kernel

theorem test_hyp_AlarmsMaskedAndCleared :
    readAlarmKind 0 = none ∧ readAlarmKind 14 = none ∧ (1 < (2 : Byte).toNat ∧ ((0 : Byte) ≠ 1 ∧ (0 : Byte) ≠ 2))
      ∧ readAlarmKind 1 = some (.point .channelLoss) ∧ readAlarmKind 6 = some (.point .unauthFlow)
      ∧ readAlarmKind 8 = some (.point .counterFull) ∧ PointAlarm.unauthFlow ≠ .channelLoss
      ∧ 18 < (19 : Byte).toNat ∧ (18 : Byte).toNat ≤ 18 ∧ (18 : Byte).toNat = (17 : Point).val + 1
      ∧ readAlarmKind 9 = some (.site .estop) ∧ readAlarmKind 13 = some (.site .pumpFailC)
      ∧ SiteAlarm.pumpFailC ≠ .estop ∧ SiteAlarm.pumpFailC ≠ .calEnabled ∧ (1 : Byte) ≠ 0 := by decide +kernel

theorem test_hyp_StatsAndCounters :
    1 < (2 : Byte).toNat ∧ (1 : Byte).toNat ≤ 1 ∧ 18 < (19 : Byte).toNat ∧ (18 : Byte).toNat = (17 : Point).val + 1
      ∧ State.reset.sup.reportTimer = none
      ∧ (let s : State := { State.reset with
            sup := { State.reset.sup with reportTimer := some 0, counters := State.reset.sup.counters.set 3 ⟨1, 0, 0, 0, 0, 0⟩ } };
        s.sup.reportTimer ≠ none ∧ s.link.notices.length ≤ 46
          ∧ (allPoints.filter fun q => decide (s.counters q ≠ ⟨0, 0, 0, 0, 0, 0⟩)) = [3]) := by decide +kernel

/-! #### Settings -/

def sampleLane (tier d : Byte) : LaneConfigF := ⟨1, 1, tier, 1, 2, d⟩

def samplePump : PumpSettingsF := ⟨1, 4, 31, 121⟩

def sampleSite : SiteConfigF := ⟨9, 601, 999, 0, 11, 60, samplePump, samplePump, samplePump, 2, 59⟩

def samplePoint (p : W16) (c : W32) : PointConfigF := ⟨1, 1, 20, 1, 4, 8, 1, p, c⟩

theorem test_hyp_SettingsStored :
    ((sampleLane 3 0).lane.toNat = (0 : Lane).val + 1 ∧ (sampleLane 3 0).enabled.toNat ≤ 1
        ∧ (sampleLane 3 0).sFitted.toNat ≤ 1 ∧ (sampleLane 3 0).dFitted.toNat ≤ 1 ∧ (sampleLane 3 0).sProduct = 2
        ∧ (sampleLane 3 0).tier.toNat ≤ 3 ∧ 3 < (sampleLane 4 0).tier.toNat)
      ∧ ((holding (record .armed) State.reset).slot 0 = some (record .armed) ∧ (record .armed).isLive = true
        ∧ (record .armed).lane = 0)
      ∧ (∃ p ∈ pointsOf 0, ((proving .fast none).point p).ctl.state = .proving)
      ∧ (∀ p ∈ pointsOf 0, ((at1 (inState .calling)).point p).ctl.state ≠ .proving)
      ∧ readProduct 1 = some .dsl ∧ 99999 < (100000 : W32).toNat ∧ 1 ≤ (1 : W32).toNat
      ∧ (sampleSite.pumpA.readyCheck.toNat ≤ 1 ∧ sampleSite.pumpB.readyCheck.toNat ≤ 1
        ∧ sampleSite.pumpC.readyCheck.toNat ≤ 1 ∧ sampleSite.reportMode = 2)
      ∧ ((samplePoint 100 0).point.toNat = (0 : Point).val + 1 ∧ (samplePoint 100 0).noise = 1
        ∧ (samplePoint 100 0).surgeHold.toNat ≤ 1 ∧ (samplePoint 100 0).window.toNat ≤ 3
        ∧ (samplePoint 100 0).p.toNat = (State.reset.point 0).cal.p
        ∧ (samplePoint 100 0).c.toInt = (State.reset.point 0).cal.c) := by decide +kernel

theorem test_hyp_SettingsStored_states :
    (∀ k a, State.reset.slot k = some a → a.isLive = true → a.lane ≠ 0) ∧ CalibrationHeld State.reset :=
  ⟨fun k a h => (by rw [reset_slot] at h; cases h), by unfold CalibrationHeld; decide +kernel⟩

/-- Codes that name nothing, at their lowest, and lanes outside 1 to 6. -/
theorem test_hyp_SettingsStored_refused :
    (¬ (2 : Byte).toNat ≤ 1 ∧ ¬ ((3 : Byte) = 1 ∨ (3 : Byte) = 2) ∧ ¬ ((0 : Byte) = 1 ∨ (0 : Byte) = 2))
      ∧ ((0 : Byte) = 0 ∧ 6 < (7 : Byte).toNat ∧ (sampleLane 3 1).dFitted.toNat ≤ 1)
      ∧ 3 < (4 : Byte).toNat ∧ 1 < (2 : Byte).toNat ∧ ((3 : Byte) ≠ 1 ∧ (3 : Byte) ≠ 2) := by decide +kernel

/-! #### Calibration -/

theorem test_hyp_ProvingRuns :
    (1 : Byte).toNat = (0 : Point).val + 1 ∧ State.reset.cal.enabled = false
      ∧ ((stopped false true (calOn State.reset)).cal.enabled = true
        ∧ (stopped false true (calOn State.reset)).sup.estopLatch = true)
      ∧ (let s := calOn State.reset;
        s.cal.enabled = true ∧ s.sup.estopLatch = false ∧ s.fitted 0 = true ∧ (s.point 0).ctl.state = .idle
          ∧ s.liveSlot (laneOf 0) = none ∧ (s.point 0).ctl.nozzle = .hung)
      ∧ (let s := calOn (bound .fast id);
        s.cal.enabled = true ∧ s.sup.estopLatch = false ∧ (s.point 0).ctl.state ≠ .idle
          ∧ (s.point 0).ctl.state ≠ .calling)
      ∧ (let s := calOn (holding (record .armed) State.reset);
        s.liveSlot (laneOf 0) = some 0 ∧ s.slot 0 = some (record .armed) ∧ (s.point 0).ctl.state = .idle)
      ∧ (∀ st ∈ [PumpState.failed, .stopped, .starting, .running, .runOn],
        let s := calOn (pumping ⟨st, false, [], none, none⟩ (at1 (inState .calling)));
        (s.point 0).ctl.state = .calling ∧ (s.point 0).ctl.nozzle = .lifted ∧ (s.point 0).ctl.stage = .closed
          ∧ (s.pump (s.pumpOfPoint 0)).state = st)
      ∧ (State.reset.point 0).ctl.state ≠ .proving ∧ (State.reset.point 0).ctl.timer = none := by decide +kernel

/-- The phase of point 1's run. -/
def phaseOf (s : State) : Option ProvePhase := (s.point 0).ctl.proving.map ProvingRun.phase

theorem test_hyp_ProvingRuns_phases :
    (∀ x ∈ [ProvePhase.liftWait, .pumpWait, .slow, .fast, .tail, .drain, .done],
        ((proving x none).point 0).ctl.state = .proving ∧ phaseOf (proving x none) = some x
          ∧ (proving x none).fitted 0 = true ∧ ((proving x none).point 0).ctl.nozzle = .lifted
          ∧ ((proving x none).point 0).ctl.binding = none)
      ∧ (∀ st ∈ [PumpState.failed, .stopped, .starting, .running, .runOn],
        let s := pumping ⟨st, false, [], none, none⟩
          (modCtl 0 (fun c => { c with nozzle := .hung }) (proving .liftWait none));
        phaseOf s = some .liftWait ∧ s.fitted 0 = true ∧ (s.point 0).ctl.nozzle = .hung
          ∧ (s.point 0).ctl.stage = .closed ∧ (s.pump (s.pumpOfPoint 0)).state = st)
      ∧ (∀ x ∈ [ProvePhase.liftWait, .slow, .fast, .tail, .done],
        let u := (windowed 0 0 0 true (proving x none)).point 0;
        countsForward u.meter ⟨false, false⟩ ∧ noiseFree u ∧ u.monitor.count + 1 < u.monitor.size
          ∧ volumeOf u.cal (min (1000 + 1) 999999999) = 10010)
      ∧ (let s := holding (record .armed) (proving .done none);
        (s.point 0).ctl.faultLatch = false ∧ (s.point 0).ctl.nozzle = .lifted ∧ s.liveSlot (laneOf 0) = some 0)
      ∧ ((proving .fast none).point 0).ctl.stage ≠ .closed
      ∧ ((modCtl 0 (fun c => { c with nozzle := .hung }) (proving .done none)).point 0).ctl.nozzle = .hung
      ∧ ((modCtl 0 (fun c => { c with faultLatch := true }) (proving .done none)).point 0).ctl.faultLatch = true
      ∧ ((proving .tail (some ⟨.softStop, 1⟩)).point 0).ctl.timer = some ⟨.softStop, 1⟩
      ∧ ((proving .drain (some ⟨.drain, 1⟩)).point 0).ctl.timer = some ⟨.drain, 1⟩ := by
  unfold countsForward noiseFree
  decide +kernel

/-- The start band and the soft-stop volume, each reached exactly or missed by one: V is 10,010 dL after the count. -/
theorem test_hyp_ProvingRuns_bands :
    (let s := proving .slow none
      let e := s.product (s.productOf 0)
      9710 + e.startBand ≤ 10010 ∧ 10010 < 9711 + e.startBand ∧ 9810 + e.softStop ≤ 10010 ∧ 10010 < 9811 + e.softStop) := by
  decide +kernel

/-- A run at 1,000 pulses with a peak, at the end of a reverse cycle. -/
def reversing (phase : ProvePhase) (peak : Int) : State :=
  modPoint 0 (metered ⟨false, true⟩ (-3)) (modRun 0 (fun r => { r with peak := peak }) (proving phase none))

/-- The allowance of 20 is met by a fall from 1,019 to 999 and passed by one from 1,020; V is then 9,990 mL. A run lifted
in DRAIN, and one hung up in LIFT_WAIT or DONE. -/
theorem test_hyp_ProvingRuns_reverse :
    (∀ x ∈ [ProvePhase.liftWait, .pumpWait, .slow, .fast, .tail, .drain, .done],
        let u := (reversing x 1020).point 0
        countsReverse u.meter ⟨false, false⟩ ∧ noiseFree u ∧ u.ctl.binding = none ∧ u.ctl.state = .proving
          ∧ phaseOf (reversing x 1020) = some x ∧ (reversing x 1020).fitted 0 = true)
      ∧ (let u := (reversing .fast 1020).point 0
        u.meter.reverseFound = false ∧ u.config.reverseAllowance = 20 ∧ volumeOf u.cal 999 = 9990)
      ∧ (∀ x ∈ [ProvePhase.drain, .done],
        let s := modCtl 0 (fun c => { c with nozzle := .hung }) (proving x none)
        (s.point 0).ctl.nozzle = .hung ∧ phaseOf s = some x ∧ s.fitted 0 = true)
      ∧ (∀ x ∈ [ProvePhase.liftWait, .done],
        ((proving x none).point 0).ctl.nozzle = .lifted ∧ ((proving x none).point 0).ctl.binding = none) := by
  unfold countsReverse noiseFree
  decide +kernel

/-- R133, R181, R184: the fall beyond the allowance, and the fall that just meets it. -/
theorem test_reverse_run :
    (match exec (.meterTransition 0 ⟨false, false⟩ .placeFirst) (reversing .fast 1020),
        exec (.meterTransition 0 ⟨false, false⟩ .placeFirst) (reversing .fast 1019) with
      | .next t, .next w =>
        (t.point 0).ctl.proving.any (fun r => r.phase == .drain && r.endCause == some .reverse && r.net == 999)
          && (t.point 0).ctl.faultLatch && (t.point 0).ctl.stage == .closed && (t.counters 0).reverse == 1
          && ((t.sup.pointAlarms[0]).get .reverseFlow).latched
          && (w.point 0).ctl.proving.any (fun r => r.phase == .fast && r.net == 999) && !(w.point 0).ctl.faultLatch
      | _, _ => false) = true := by decide +kernel

theorem test_hyp_CalibrationChanges :
    (999 < 1000 ∧ (2000001 : W32).toNat = 2000001 ∧ 1000 ≤ (10000 : W32).toNat ∧ (10000 : W32).toNat ≤ 2000000)
      ∧ State.reset.cal.enabled = false
      ∧ ((calOn State.reset).cal.enabled = true ∧ ((calOn State.reset).point 0).ctl.state ≠ .proving)
      ∧ (let s := calOn (modCtl 0 (fun c => { c with nozzle := .hung }) (proving .done none));
        s.cal.enabled = true ∧ (s.point 0).ctl.state = .proving ∧ (s.point 0).ctl.faultLatch = false
          ∧ (s.point 0).ctl.proving.any (fun r => r.phase == .done && r.measured == some ((1000 : Nat) : Int)) = true
          ∧ (s.point 0).ctl.nozzle = .hung ∧ (s.point 0).cal.p = 100)
      ∧ (let c (v : Nat) : Int := ((2 * 1000 * 1000000000 + 100 * v) / (2 * 100 * v) : Nat) - 1000000;
        -50000 ≤ c 10010 ∧ c 10010 ≤ 50000 ∧ 50000 < c 9000 ∧ c 20000 < -50000)
      ∧ ((samplePoint 9 0).p.toNat < 10 ∧ 5000 < (samplePoint 5001 0).p.toNat
        ∧ 50000 < (samplePoint 200 50001).c.toInt ∧ (samplePoint 200 (-50001)).c.toInt < -50000
        ∧ 10 ≤ (samplePoint 200 50000).p.toNat ∧ (samplePoint 200 50000).p.toNat ≤ 5000
        ∧ -50000 ≤ (samplePoint 200 50000).c.toInt ∧ (samplePoint 200 50000).c.toInt ≤ 50000
        ∧ (⟨(samplePoint 200 50000).p.toNat, (samplePoint 200 50000).c.toInt⟩ : Calibration) ≠ (State.reset.point 0).cal)
      ∧ ((calOn (bound .fast id)).point 0).ctl.binding ≠ none
      ∧ (((calOn State.reset).point 0).ctl.binding = none) := by decide +kernel

/-- A lifted point at DONE, with no record on its lane and with one; a point number outside 1 to 18. -/
theorem test_hyp_CalibrationChanges_lifted :
    (let s := calOn (proving .done none);
      s.cal.enabled = true ∧ (s.point 0).ctl.state = .proving ∧ (s.point 0).ctl.faultLatch = false
        ∧ (s.point 0).ctl.proving.any (fun r => r.phase == .done && r.measured == some ((1000 : Nat) : Int)) = true
        ∧ (s.point 0).ctl.nozzle = .lifted ∧ s.liveSlot (laneOf 0) = none)
      ∧ (calOn (holding (record .armed) (proving .done none))).liveSlot (laneOf 0) = some 0
      ∧ ((0 : Byte) = 0 ∧ 18 < (19 : Byte).toNat) := by decide +kernel

/-- R181, R185: N_meas 1,000 at P 100 and V_p 10,010 mL give C' −999, and the reply carries the run as it stood. -/
theorem test_prove_result_reports_run :
    let s := calOn (modCtl 0 (fun c => { c with nozzle := .hung }) (proving .done none))
    (match exec (.proveResult .station (.fields ⟨1, 10010⟩)) s with
      | .next t => t.link.reply.any (fun x => x.data == .calibrated (-999) ⟨100, -999⟩ 1 (runReport s 0))
        && (runReport s 0).isSome && (t.point 0).ctl.proving == none
      | _ => false) = true := by decide +kernel

/-! #### Restarts and money -/

theorem test_hyp_RestartClears :
    (∀ st ∈ [RecordState.awaitOnline, .armed, .delivering, .idleOpen, .settled],
      ((holding (record st) State.reset).slot 0).any (fun a => a.state == st) = true)
      ∧ State.reset.slot 3 = none ∧ ∀ p, ((holding (record .settled) State.reset).point p).ctl.binding = none := by
  decide +kernel

/-- `flowing`, whose delivery of 100 counts is not final, with a run of 1,000 counts that is not totalised. -/
def restarting : State :=
  modCtl 3 (fun c => { c with state := .proving, proving := some { newRun 3 with phase := .fast, net := 1000 } }) flowing

/-- A delivery and a run in progress, a sale held and one to come, every serial found at its slot. -/
theorem test_hyp_RestartClears_merges :
    (opensAt 0 restarting 0 = true ∧ allPoints.filter (opensAt 0 restarting) = [0]
        ∧ lineOf restarting 0 = some .dsl ∧ flowingRecord.lines.dsl.hasMember 0 = true
        ∧ retainedVolume restarting 0 = 1000
        ∧ (restarting.point 3).ctl.proving.any (fun r => !r.totalised) = true)
      ∧ (let s := setSlot 5 (some { record .settled with serial := 2 })
          { restarting with auth := { restarting.auth with sales := [2] } };
        (∀ k a, s.slot k = some a → s.slotOfSerial a.serial = some k)
          ∧ (∀ n ∈ s.auth.sales, ∃ k a, s.slot k = some a ∧ a.state = .settled ∧ a.serial = n)
          ∧ s.auth.sales.length ≤ 23) := by
  refine ⟨by decide +kernel, fun k a h => ?_, fun n hn => ⟨5, { record .settled with serial := 2 }, ?_⟩, by decide +kernel⟩
  · have : ∀ k : Slot, k = 0 ∨ k = 5 ∨ (setSlot 5 (some { record .settled with serial := 2 })
          { restarting with auth := { restarting.auth with sales := [2] } }).slot k = none := by decide +kernel
    rcases this k with rfl | rfl | hk
    · cases h; decide +kernel
    · cases h; decide +kernel
    · rw [hk] at h; cases h
  · have : n = 2 := by simpa using hn
    subst this
    decide +kernel

/-- R70: 5,000 cents at 10,000 cents per 100 L buy 5,000 dL; one dL more would round up past the money. -/
theorem test_hyp_MoneyBuysVolume :
    (1 ≤ 10000 ∧ volForMoney (-1) 10000 = 0) ∧ volForMoney 5000 10000 = 5000 ∧ amountOf 5000 10000 = 5000
      ∧ amountOf 5001 10000 = 5001 := by decide +kernel

end Sys2Proof.Tests
end

section
/-! The hot-list search and HOTLIST QUERY (R16, R18, R23). -/

namespace Sys2Proof.Proofs

open Sys2Proof Sys2Proof.Machine Sys2Proof.Safety

/-! #### The search of R18 -/

/-- What R18 asks of the outcome of a search of `part`, whose first entry has index `base`: a member's place, or the
place that keeps the order if the number is inserted there. -/
def Locates (c : CardNumber) (base : Nat) (part : List CardNumber) : SearchResult → Prop
  | .member i => ∃ lower upper, part = lower ++ c :: upper ∧ i = base + lower.length
  | .absent i => ∃ lower upper, part = lower ++ upper ∧ i = base + lower.length
      ∧ (∀ d ∈ lower, d.before c = true) ∧ ∀ d ∈ upper, c.before d = true

theorem Locates.nil (c : CardNumber) (base : Nat) : Locates c base [] (.absent base) :=
  ⟨[], [], rfl, rfl, by simp, by simp⟩

/-- An outcome in the lower half stands for the whole part when the number lies before all the rest. -/
theorem Locates.append {c : CardNumber} {base : Nat} {lower upper : List CardNumber} {r : SearchResult}
    (hr : Locates c base lower r) (hu : ∀ d ∈ upper, c.before d = true) : Locates c base (lower ++ upper) r := by
  cases r with
  | member i =>
    obtain ⟨xs, ys, rfl, hi⟩ := hr
    exact ⟨xs, ys ++ upper, by simp, hi⟩
  | absent i =>
    obtain ⟨xs, ys, rfl, hi, hx, hy⟩ := hr
    refine ⟨xs, ys ++ upper, by simp, hi, hx, fun d hd => ?_⟩
    exact (List.mem_append.mp hd).elim (hy d) (hu d)

/-- An outcome in the upper half stands for the whole part when the number lies behind all the rest. -/
theorem Locates.prepend {c : CardNumber} {base : Nat} {lower upper : List CardNumber} {r : SearchResult}
    (hr : Locates c (base + lower.length) upper r) (hl : ∀ d ∈ lower, d.before c = true) :
    Locates c base (lower ++ upper) r := by
  cases r with
  | member i =>
    obtain ⟨xs, ys, rfl, hi⟩ := hr
    exact ⟨lower ++ xs, ys, by simp, by simp [hi, Nat.add_assoc]⟩
  | absent i =>
    obtain ⟨xs, ys, rfl, hi, hx, hy⟩ := hr
    refine ⟨lower ++ xs, ys, by simp, by simp [hi, Nat.add_assoc], fun d hd => ?_, hy⟩
    exact (List.mem_append.mp hd).elim (hl d) (hx d)

/-- One comparison: an equal middle entry ends the search, else the half on the number's side is searched. -/
theorem searchPart_middle (n base : Nat) (lower upper : List CardNumber) (e c : CardNumber)
    (hm : (lower ++ e :: upper).length / 2 = lower.length) :
    searchPart (n + 1) base (lower ++ e :: upper) c =
      if e = c then .member (base + lower.length)
      else if c.before e then searchPart n base lower c
      else searchPart n (base + lower.length + 1) upper c := by
  simp only [searchPart, hm]
  simp

/-- The middle entry a comparison reads, with the two halves it parts. -/
theorem exists_middle {α : Type} {l : List α} (h : l ≠ []) :
    ∃ lower e upper, l = lower ++ e :: upper ∧ (lower ++ e :: upper).length / 2 = lower.length := by
  have hlt : l.length / 2 < l.length := Nat.div_lt_self (List.length_pos_iff.mpr h) (by omega)
  have hl : l = l.take (l.length / 2) ++ l[l.length / 2] :: l.drop (l.length / 2 + 1) := by simp
  refine ⟨_, _, _, hl, ?_⟩
  rw [← hl, List.length_take]
  omega

/-- R18: `n` comparisons decide an ordered part of fewer than `2 ^ n` entries, since each comparison leaves a half
of fewer than `2 ^ (n - 1)`. -/
theorem searchPart_locates {n : Nat} {part : List CardNumber} (c : CardNumber) (base : Nat)
    (ho : part.Pairwise fun d e => d.before e = true) (hn : part.length < 2 ^ n) :
    Locates c base part (searchPart n base part c) := by
  induction n generalizing part base with
  | zero =>
    obtain rfl : part = [] := List.length_eq_zero_iff.mp (by omega)
    exact .nil c base
  | succ n ih =>
    by_cases hp : part = []
    · subst hp
      exact .nil c base
    obtain ⟨lower, e, upper, rfl, hm⟩ := exists_middle hp
    obtain ⟨hlower, hright, hsep⟩ := List.pairwise_append.mp ho
    obtain ⟨heu, hupper⟩ := List.pairwise_cons.mp hright
    have hlen : lower.length < 2 ^ n ∧ upper.length < 2 ^ n := by
      simp only [List.length_append, List.length_cons, Nat.pow_succ] at hn hm
      omega
    rw [searchPart_middle n base lower upper e c hm]
    split
    next hec =>
      subst hec
      exact ⟨lower, upper, rfl, rfl⟩
    next hne =>
      split
      next hce =>
        refine (ih base hlower hlen.1).append ?_
        simpa [hce] using fun d hd => before_trans hce (heu d hd)
      next hce =>
        have hec : e.before c = true := before_total (Ne.symm hne) (by simpa using hce)
        have hbelow : ∀ d ∈ lower ++ [e], d.before c = true := by
          simpa [or_imp, forall_and, hec] using fun d hd => before_trans (hsep d hd e (by simp)) hec
        rw [List.append_cons]
        refine Locates.prepend ?_ hbelow
        simpa [Nat.add_assoc] using ih (base + lower.length + 1) hupper hlen.2

/-- R18: 11 comparisons search every ordered list of at most 1,024 entries. -/
theorem hotSearch_locates {s : State} (h : HotListOrdered s) (c : CardNumber) :
    Locates c 0 s.screening.hotList (hotSearch s.screening.hotList c) := by
  obtain ⟨hordered, hlength⟩ := h
  have hfits : s.screening.hotList.length < 2 ^ Config.hotSearchComparisons :=
    calc s.screening.hotList.length ≤ 1024 := hlength
      _ < 2 ^ Config.hotSearchComparisons := by decide
  exact searchPart_locates c 0 hordered hfits

theorem hotMember_iff_mem {s : State} (h : HotListOrdered s) (c : CardNumber) :
    hotMember s.screening.hotList c = true ↔ c ∈ s.screening.hotList := by
  have hfound := hotSearch_locates h c
  unfold hotMember
  cases hr : hotSearch s.screening.hotList c with
  | member i =>
    rw [hr] at hfound
    obtain ⟨lower, upper, hl, _⟩ := hfound
    simp [hl]
  | absent i =>
    rw [hr] at hfound
    obtain ⟨lower, upper, hl, _, hlower, hupper⟩ := hfound
    have hnot : c ∉ s.screening.hotList := fun hc => by
      rw [hl] at hc
      have hself : c.before c = true := (List.mem_append.mp hc).elim (hlower c) (hupper c)
      simp [before_irrefl] at hself
    simp [hnot]

/-! #### HOTLIST QUERY -/

theorem exec_hotlistQuery (d : Dest) (b : Body CardWire) (s : State) :
    exec (.hotlistQuery d b) s = execHotlistQuery d b s := rfl

/-- R188, R189: a request of the right length to the station is replied to as its rule says. -/
theorem serve_station_fields {α : Type} (kind : Byte) (f : α) (rule : α → State → Done) (s : State) :
    serve .station kind (.fields f) rule s = .next (finish kind (rule f s)) := rfl

/-- R17: a number that has passed the structure and digit-count checks reaches the rule of its request. -/
theorem onCard_of_inRange {w : CardWire} {c : CardNumber} (hw : readCard w = some c) (hc : c.inRange = true)
    (rule : CardNumber → State → Done) (s : State) : onCard rule w s = rule c s := by
  simp [onCard, hw, hc]

theorem hotlistQueryRule_eq {s : State} (h : HotListOrdered s) (c : CardNumber) :
    hotlistQueryRule c s =
      done (.hotMember s.screening.hotList.length (decide (c ∈ s.screening.hotList))) s := by
  have hmember : hotMember s.screening.hotList c = decide (c ∈ s.screening.hotList) :=
    Bool.eq_iff_iff.mpr ((hotMember_iff_mem h c).trans decide_eq_true_iff.symm)
  rw [hotlistQueryRule, hmember]

/-- Settles O24: the search decides membership of the ordered list (`hotMember_iff_mem`), and the query only reports
it. -/
theorem hotListQueried : Obligations.HotListQueried := by
  intro w c s hs hw hc
  rw [exec_hotlistQuery, execHotlistQuery, serve_station_fields, onCard_of_inRange hw hc, hotlistQueryRule_eq hs]
  rfl

end Sys2Proof.Proofs
end

section
/-! The odometer flags and the predicate codes (R28, R29). -/

namespace Sys2Proof.Proofs

open Sys2Proof Sys2Proof.Machine Sys2Proof.Safety

/-! #### The flags of R28, when clear -/

@[simp] theorem odometerFlags_z_clear (d : Int) (window : Nat) : (odometerFlags d window).z = false ↔ d ≠ 0 :=
  beq_eq_false_iff_ne

@[simp] theorem odometerFlags_n_clear (d : Int) (window : Nat) : (odometerFlags d window).n = false ↔ ¬ d < 0 :=
  decide_eq_false_iff_not

@[simp] theorem odometerFlags_v_clear (d : Int) (window : Nat) :
    (odometerFlags d window).v = false ↔ ¬ window < d.natAbs :=
  decide_eq_false_iff_not

/-! #### The codes of R29, by the names of its table -/

theorem predicatePasses_any (f : OdometerFlags) : predicatePasses 0 f = true := rfl

theorem predicatePasses_notBack (f : OdometerFlags) : predicatePasses 1 f = true ↔ f.n = false := by
  simp [predicatePasses]

theorem predicatePasses_forward (f : OdometerFlags) :
    predicatePasses 2 f = true ↔ f.n = false ∧ f.z = false := by
  simp [predicatePasses]

theorem predicatePasses_window (f : OdometerFlags) : predicatePasses 3 f = true ↔ f.v = false := by
  simp [predicatePasses]

theorem predicatePasses_fwdWindow (f : OdometerFlags) :
    predicatePasses 4 f = true ↔ f.n = false ∧ f.v = false := by
  simp [predicatePasses]

theorem predicatePasses_strict (f : OdometerFlags) :
    predicatePasses 5 f = true ↔ f.n = false ∧ f.z = false ∧ f.v = false := by
  simp [predicatePasses, and_assoc]

theorem predicatePasses_changed (f : OdometerFlags) : predicatePasses 6 f = true ↔ f.z = false := by
  simp [predicatePasses]

/-! #### The reading -/

theorem readingPasses_none (code window entered : Nat) : readingPasses code window entered none = true := rfl

theorem readingPasses_some (code window entered last : Nat) :
    readingPasses code window entered (some last) =
      predicatePasses code (odometerFlags ((entered : Int) - last) window) := rfl

/-- Settles O27: each code passes when the flags it names are clear, and each clear flag says what it does of D. -/
theorem predicatesDecide : Obligations.PredicatesDecide := by
  intro window entered last d
  simp only [readingPasses_some]
  refine ⟨fun code => readingPasses_none code window entered, predicatePasses_any _, ?notBack, ?forward, ?window,
    ?fwdWindow, ?strict, ?changed⟩
  case notBack => rw [predicatePasses_notBack, odometerFlags_n_clear]
  case forward => rw [predicatePasses_forward, odometerFlags_n_clear, odometerFlags_z_clear]
  case window => rw [predicatePasses_window, odometerFlags_v_clear]
  case fwdWindow => rw [predicatePasses_fwdWindow, odometerFlags_n_clear, odometerFlags_v_clear]
  case strict => rw [predicatePasses_strict, odometerFlags_n_clear, odometerFlags_z_clear, odometerFlags_v_clear]
  case changed => rw [predicatePasses_changed, odometerFlags_z_clear]

end Sys2Proof.Proofs
end

section
/-! NEXT NOTICE (R191), and the requests that broadcast does not admit (R188). -/

namespace Sys2Proof.Proofs

open Sys2Proof Sys2Proof.Machine Sys2Proof.Safety

/-! #### Serving a request -/

/-- R194: a request of the wrong length to the station is refused before its rule is reached. -/
theorem serve_station_wrongLength {α : Type} (kind : Byte) (rule : α → State → Done) (s : State) :
    serve .station kind .wrongLength rule s = .next (reply kind .malformed .none s) := rfl

/-- R188: a broadcast of a request that broadcast does not admit is dropped, whatever its body. -/
theorem serve_broadcast {α : Type} (kind : Byte) (b : Body α) (rule : α → State → Done) (s : State) :
    serve .broadcast kind b rule s = .next (endBroadcast s) := rfl

theorem finish_done (kind : Byte) (d : ReplyData) (s : State) : finish kind (done d s) = reply kind .ok d s := rfl

theorem finish_refuse (kind : Byte) (st : Status) (s : State) : finish kind (refuse st s) = reply kind st .none s := rfl

/-! #### The options of NEXT NOTICE -/

theorem nextNoticeRule_take {s : State} {n : Notice} {rest : List Notice} (h : s.link.notices = n :: rest) :
    nextNoticeRule 0 s =
      done (.notice rest.length (some n)) { s with link := { s.link with notices := rest, lastTaken := some n } } := by
  simp [nextNoticeRule, h]

theorem nextNoticeRule_take_nil {s : State} (h : s.link.notices = []) :
    nextNoticeRule 0 s = done (.notice 0 none) s := by
  simp [nextNoticeRule, h]

theorem nextNoticeRule_repeat (s : State) :
    nextNoticeRule 1 s = done (.notice s.link.notices.length s.link.lastTaken) s := rfl

theorem nextNoticeRule_other {o : Byte} (h0 : o ≠ 0) (h1 : o ≠ 1) (s : State) :
    nextNoticeRule o s = refuse .malformed s := by
  unfold nextNoticeRule
  split
  next h => exact absurd (BitVec.eq_of_toNat_eq h) h0
  next h => exact absurd (BitVec.eq_of_toNat_eq h) h1
  next => rfl

/-! #### NEXT NOTICE -/

theorem exec_nextNotice (d : Dest) (b : Body Byte) (s : State) :
    exec (.nextNotice d b) s = serve d 0x02 b nextNoticeRule s := rfl

theorem exec_nextNotice_fields (o : Byte) (s : State) :
    exec (.nextNotice .station (.fields o)) s = .next (finish 0x02 (nextNoticeRule o s)) := by
  rw [exec_nextNotice, serve_station_fields]

/-- Settles O21: the option alone selects the outcome of a body of the right length, and TAKE tells the empty queue
from one that holds a notice. -/
theorem noticeTaken : Obligations.NoticeTaken := by
  intro s o
  refine ⟨fun n rest h => ?take, fun h => ?takeEmpty, ?repeatCopy, fun h0 h1 => ?other, ?wrongLength,
    fun b => ?broadcast⟩
  case take => rw [exec_nextNotice_fields, nextNoticeRule_take h, finish_done]
  case takeEmpty => rw [exec_nextNotice_fields, nextNoticeRule_take_nil h, finish_done]
  case repeatCopy => rw [exec_nextNotice_fields, nextNoticeRule_repeat, finish_done]
  case other => rw [exec_nextNotice_fields, nextNoticeRule_other h0 h1, finish_refuse]
  case wrongLength => rw [exec_nextNotice, serve_station_wrongLength]
  case broadcast => rw [exec_nextNotice, serve_broadcast]

end Sys2Proof.Proofs
end
